-- ==== Sys2Proof/Word.lean ====
section
/-! DEFINITION. The word types of the SCE (00_scope.md R7, R9; 30_encoding.md R70). -/

namespace Sys2Proof

/-- One byte of the link, of BUF or of a device register (R7: REG_ADDR_WIDTH, REG_DATA_WIDTH; R48). -/
abbrev Byte := BitVec 8

/-- A host operand or a 32-bit register (R7: OPERAND_WIDTH, DIM_WIDTH, LEN_WIDTH; R30, R31). -/
abbrev Word := BitVec 32

/-- A 16-bit RGB565 sample, format P16 (R70). -/
abbrev Sample := BitVec 16

/-- Zero extension of a byte to an operand field (R73: no sign extension, scaling or shifting). -/
def zextWord (b : Byte) : Word := b.setWidth 32

/-- `v[7:0]` of an operand (R73). -/
def lowByte (w : Word) : Byte := w.setWidth 8

end Sys2Proof
end

