-- ==== Sys2Proof/Config.lean ====
section
/-! DEFINITION. What an implementation of the SCE fixes (00_scope.md R7), the constant scale tables (10_state.md R36,
43_pixel_converter.md R119) and the one free value of the model, the link agent's answer (10_state.md R22). -/

namespace Sys2Proof

/-- The parameters of R7 that are values a model takes as arguments; State carries them and no step changes them. -/
structure Params where
  /-- `PRESETS`, the supported (width, height) pairs (R7, D5). -/
  presets : List (Word × Word)
  /-- The line rate taken when the host omits it (R7, R30). -/
  baudDefault : Word
  /-- The read timeout in milliseconds taken when the host omits it (R7, R31). -/
  timeoutDefault : Word
deriving DecidableEq, Repr

/-- The defaults of R7: the three presets of the source, 1,500,000 baud, 1000 ms. -/
def Params.default : Params where
  presets := [(176, 144), (160, 120), (320, 240)]
  baudDefault := 1500000
  timeoutDefault := 1000

/-- One answer of the link agent (R22), in a form that answers any primitive: for Open, Flush and Write `done` is Ok (its
bytes are not looked at); for a Read `done c` is the chunk `c`; `failed` is Unavailable for Open and Disconnected for the
others. DESIGN CHOICE, log 1. -/
inductive LinkAnswer where
  | done (chunk : List Byte)
  | failed
deriving DecidableEq, Repr, Inhabited

/-- FREE VALUE (log 2): what the link agent answers once the link script held in State is used up. No body: nothing is
known of it (R22: "under no law"). -/
opaque Config.linkAnswer : Nat → LinkAnswer

/-- SCALE5 (R36, R119): the full contents, index 0 to 31. -/
def scale5Table : List Nat :=
  [0, 8, 16, 24, 32, 41, 49, 57, 65, 74, 82, 90, 98, 106, 115, 123] ++
  [131, 139, 148, 156, 164, 172, 180, 189, 197, 205, 213, 222, 230, 238, 246, 255]

/-- SCALE6 (R36, R119): the full contents, index 0 to 63. -/
def scale6Table : List Nat :=
  [0, 4, 8, 12, 16, 20, 24, 28, 32, 36, 40, 44, 48, 52, 56, 60] ++
  [64, 68, 72, 76, 80, 85, 89, 93, 97, 101, 105, 109, 113, 117, 121, 125] ++
  [129, 133, 137, 141, 145, 149, 153, 157, 161, 165, 170, 174, 178, 182, 186, 190] ++
  [194, 198, 202, 206, 210, 214, 218, 222, 226, 230, 234, 238, 242, 246, 250, 255]

end Sys2Proof
end

