-- ==== Sys2Proof/Machine/Operands.lean ====
section
/-! DEFINITION. Operand checks and operand arithmetic: the 8-bit range check (41_command_codec.md R95), the bit index
(44_bitfield_pseudo.md R130), the FrameSpec check and byte size (00_scope.md R8, 40_link_session.md R90), the pixel fields
(30_encoding.md R70, R74) and the written values of the pseudo-operations (R127 to R129). -/

namespace Sys2Proof.Machine

/-- `InRange8(x)` (R95). -/
def inRange8 (x : Word) : Bool := decide (x.toNat ≤ 0xFF)

/-- The bit index of a pseudo-operation is 0 to 7 (R130). -/
def bitIndexOk (bit : Word) : Bool := decide (bit.toNat ≤ 7)

/-- `byte_size(w, h) = w * h * 2`, exact (R8). -/
def byteSizeOf (w h : Word) : Nat := w.toNat * h.toNat * 2

/-- A FrameSpec any PRESETS could hold: both dimensions positive (R16, R28) and the exact byte size below 2^32 (R29). -/
def frameSpecFits (w h : Word) : Bool :=
  decide (0 < w.toNat) && decide (0 < h.toNat) && decide (byteSizeOf w h < 2 ^ 32)

/-- OPEN's FrameSpec check (R90): the pair is in PRESETS; a pair that no PRESETS may hold is refused whatever the list says
(R29; DESIGN CHOICE for the zero dimensions, log 18). -/
def supported (p : Params) (w h : Word) : Bool := frameSpecFits w h && decide ((w, h) ∈ p.presets)

/-- BUF's capacity: the largest byte size of PRESETS (R33). -/
def bufCapacity (p : Params) : Nat := (p.presets.map fun wh => byteSizeOf wh.1 wh.2).foldl max 0

/-- `red5 = v[15:11]` (R70). -/
def red5 (v : Sample) : BitVec 5 := v.extractLsb' 11 5

/-- `green6 = v[10:5]` (R70). -/
def green6 (v : Sample) : BitVec 6 := v.extractLsb' 5 6

/-- `blue5 = v[4:0]` (R70). -/
def blue5 (v : Sample) : BitVec 5 := v.extractLsb' 0 5

/-- The little-endian 16-bit sample of two bytes, the lower offset first (R51). -/
def sampleOf (lo hi : Byte) : Sample := lo.setWidth 16 ||| (hi.setWidth 16 <<< 8)

/-- `v | (1 << bit)` (R127). -/
def setBitOf (v : Byte) (bit : Word) : Byte := v ||| (1#8 <<< bit.toNat)

/-- `v & (0xFF ^ (1 << bit))`, the mask at 8 bits (R128). -/
def clearBitOf (v : Byte) (bit : Word) : Byte := v &&& (0xFF#8 ^^^ (1#8 <<< bit.toNat))

/-- `(v >> bit) & 1` (R129). -/
def getBitOf (v : Byte) (bit : Word) : Byte := (v >>> bit.toNat) &&& 1#8

end Sys2Proof.Machine
end

