-- ==== Sys2Proof/Syntax.lean ====
section
/-! DEFINITION. The operations of spec/opcode_table.json, one constructor a row (30_encoding.md R82), the host request
record (R72) and the lines of a host program (R80, R81). -/

namespace Sys2Proof

/-- The nine operations of the opcode table (R3, R82). Operands are the unsigned fields of the request record (R72), wider
than a byte on purpose, so that an out-of-range operand can be expressed. -/
inductive Instr where
  /-- OPEN (R90); `none` for a baud or timeout the host omits (R72, R80). -/
  | openSession (width height : Word) (baud timeout : Option Word)
  /-- CLOSE (R91). -/
  | close
  /-- REG_WRITE (R99). -/
  | regWrite (reg value : Word)
  /-- REG_READ (R100). -/
  | regRead (reg : Word)
  /-- CAPTURE (R105). -/
  | capture
  /-- PIX_CONV (R117). -/
  | pixConv (v : Sample)
  /-- SET_BIT (R127), a host pseudo-operation. -/
  | setBit (reg bit : Word)
  /-- CLEAR_BIT (R128), a host pseudo-operation. -/
  | clearBit (reg bit : Word)
  /-- GET_BIT (R129), a host pseudo-operation. -/
  | getBit (reg bit : Word)
deriving DecidableEq, Repr

/-- Which pseudo-operation of 44_bitfield_pseudo.md. -/
inductive HelperOp where
  | set
  | clear
  | get
deriving DecidableEq, Repr

/-- The host request record H (R72). `baud` and `timeout` are `none` when the host omits them. -/
structure Request where
  op : BitVec 3
  reg : Word
  value : Word
  width : Word
  height : Word
  baud : Option Word
  timeout : Option Word
deriving DecidableEq, Repr

/-- One line of a host program (R80, R81), in the form the host offers it. -/
inductive HostLine where
  /-- A request record on `host_req` (R72). -/
  | record (r : Request)
  /-- A request written as the command frame it puts on the wire, formats W3, R2 and C1 (R66 to R68). The model's own way
  in for the opcode table's words; DESIGN CHOICE, log 5. -/
  | frame (bytes : List Byte)
  /-- A P16 sample given to the pixel converter alone (R70, R117). DESIGN CHOICE, log 6. -/
  | sample (v : Sample)
  /-- A pseudo-operation, run by the host (R81). -/
  | pseudo (op : HelperOp) (reg bit : Word)
deriving DecidableEq, Repr

/-- The instruction a pseudo-operation line stands for. -/
def HelperOp.instr : HelperOp → Word → Word → Instr
  | .set, reg, bit => .setBit reg bit
  | .clear, reg, bit => .clearBit reg bit
  | .get, reg, bit => .getBit reg bit

end Sys2Proof
end

