-- ==== Sys2Proof/WellFormed.lean ====
section
/-! DEFINITION. Well-formed operations: every operand is one that the operation's format in 30_encoding.md admits. An
ill-formed operation is still performed; it ends in INVALID_ARGUMENT (41_command_codec.md R95, 44_bitfield_pseudo.md R130,
40_link_session.md R90), and its operands have no place in a command frame (R73). -/

namespace Sys2Proof

/-- The operands fit the operation's format: a register address and value of 8 bits (R66, R67), a bit index 0 to 7 (R130), a
FrameSpec whose sides are positive and whose byte size fits BYTE_SIZE (R16, R29). -/
def Instr.wf : Instr → Bool
  | .openSession w h _ _ => Machine.frameSpecFits w h
  | .close => true
  | .regWrite reg value => Machine.inRange8 reg && Machine.inRange8 value
  | .regRead reg => Machine.inRange8 reg
  | .capture => true
  | .pixConv _ => true
  | .setBit reg bit => Machine.inRange8 reg && Machine.bitIndexOk bit
  | .clearBit reg bit => Machine.inRange8 reg && Machine.bitIndexOk bit
  | .getBit reg bit => Machine.inRange8 reg && Machine.bitIndexOk bit

end Sys2Proof
end

