-- ==== Sys2Proof/Decode.lean ====
section
/-! DEFINITION. Decoding host lines, request records and command frames (30_encoding.md R65 to R78), total and rejecting by
name, and the encoders beside it (R66 to R68, R72; 41_command_codec.md R96). -/

namespace Sys2Proof

/-- Why a line is no operation. -/
inductive DecodeError where
  /-- A request record with op 5, 6 or 7 (R78). -/
  | reservedOp (op : BitVec 3)
  /-- No byte at all where a command frame should start. -/
  | emptyFrame
  /-- A first byte other than 0xAA, 0xBB and 0xCC (R75, R77). -/
  | reservedFirstByte (b : Byte)
  /-- Fewer bytes than the first byte's frame length (R76). -/
  | truncatedFrame (b : Byte)
  /-- More bytes than the first byte's frame length (R76, R77). -/
  | trailingBytes
deriving DecidableEq, Repr

/-- HOST_OP of a request record (R72); fields the operation does not use are ignored. -/
def decodeRequest (r : Request) : Except DecodeError Instr :=
  match r.op.toNat with
  | 0 => .ok (.openSession r.width r.height r.baud r.timeout)
  | 1 => .ok .close
  | 2 => .ok (.regWrite r.reg r.value)
  | 3 => .ok (.regRead r.reg)
  | 4 => .ok .capture
  | _ => .error (.reservedOp r.op)

/-- The command frame at the head of a byte stream, and the bytes after it. A frame's length is fixed by its first byte
(R75, R76). -/
def decodeFrame : List Byte → Except DecodeError (Instr × List Byte)
  | [] => .error .emptyFrame
  | b :: rest =>
    match b.toNat with
    | 0xAA =>
      match rest with
      | reg :: value :: tail => .ok (.regWrite (zextWord reg) (zextWord value), tail)
      | _ => .error (.truncatedFrame b)
    | 0xBB =>
      match rest with
      | reg :: tail => .ok (.regRead (zextWord reg), tail)
      | _ => .error (.truncatedFrame b)
    | 0xCC => .ok (.capture, rest)
    | _ => .error (.reservedFirstByte b)

/-- A line whose whole content is one command frame (R77: never another length). -/
def decodeWholeFrame (bytes : List Byte) : Except DecodeError Instr :=
  match decodeFrame bytes with
  | .ok (i, []) => .ok i
  | .ok (_, _ :: _) => .error .trailingBytes
  | .error e => .error e

/-- The operation a host line asks for (R80, R81). -/
def decodeLine : HostLine → Except DecodeError Instr
  | .record r => decodeRequest r
  | .frame bytes => decodeWholeFrame bytes
  | .sample v => .ok (.pixConv v)
  | .pseudo op reg bit => .ok (op.instr reg bit)

/-! The encoders. -/

/-- `EncWrite(reg, value) = [0xAA, reg[7:0], value[7:0]]` (R96, format W3). -/
def encWrite (reg value : Word) : List Byte := [0xAA, lowByte reg, lowByte value]

/-- `EncRead(reg) = [0xBB, reg[7:0]]` (R96, format R2). -/
def encRead (reg : Word) : List Byte := [0xBB, lowByte reg]

/-- `EncCapture() = [0xCC]` (R96, format C1). -/
def encCapture : List Byte := [0xCC]

/-- The command frame an operation puts on the wire, if it has one (R82). -/
def encodeFrame : Instr → Option (List Byte)
  | .openSession _ _ _ _ => none
  | .close => none
  | .regWrite reg value => some (encWrite reg value)
  | .regRead reg => some (encRead reg)
  | .capture => some encCapture
  | .pixConv _ => none
  | .setBit _ _ => none
  | .clearBit _ _ => none
  | .getBit _ _ => none

/-- The request record with this op, every operand field zero and baud and timeout omitted (R72). -/
def bareRequest (op : BitVec 3) : Request :=
  { op := op, reg := 0, value := 0, width := 0, height := 0, baud := none, timeout := none }

/-- The line that asks for an operation: a request record (R72), a sample (R70) or a pseudo-operation (R81). -/
def encode : Instr → HostLine
  | .openSession w h b t => .record { bareRequest 0 with width := w, height := h, baud := b, timeout := t }
  | .close => .record (bareRequest 1)
  | .regWrite reg value => .record { bareRequest 2 with reg := reg, value := value }
  | .regRead reg => .record { bareRequest 3 with reg := reg }
  | .capture => .record (bareRequest 4)
  | .pixConv v => .sample v
  | .setBit reg bit => .pseudo .set reg bit
  | .clearBit reg bit => .pseudo .clear reg bit
  | .getBit reg bit => .pseudo .get reg bit

/-! The opcode table's words. -/

/-- The frame word F of a byte list: the first byte sent is the most significant (R65). -/
def frameWord (bytes : List Byte) : Nat := bytes.foldl (fun acc b => acc * 256 + b.toNat) 0

/-- The `k` bytes whose frame word is `w`, first byte sent first (R65). -/
def frameBytes : Nat → Nat → List Byte
  | 0, _ => []
  | k + 1, w => BitVec.ofNat 8 (w >>> (8 * k)) :: frameBytes k w

/-- The line that an opcode-table word stands for (log 5). A row of at most 8 bits is the 3-bit op field of a request
record, whose other fields are then zero, or the one-byte frame C1; a 16-bit row is a frame R2 when its upper byte is 0xBB
and a P16 sample otherwise; any other row is a command frame. -/
def tableLine (nbits w : Nat) : HostLine :=
  if nbits ≤ 8 then
    if w < 8 then .record { bareRequest (BitVec.ofNat 3 w) with baud := some 0, timeout := some 0 }
    else .frame (frameBytes 1 w)
  else if nbits = 16 ∧ w >>> 8 ≠ 0xBB then .sample (BitVec.ofNat 16 w)
  else .frame (frameBytes (nbits / 8) w)

/-- The instruction the decoder reads from an opcode-table word. -/
def decodeTableWord (nbits w : Nat) : Option Instr :=
  match decodeLine (tableLine nbits w) with
  | .ok i => some i
  | .error _ => none

end Sys2Proof
end

