-- ==== Sys2Proof/Machine/State.lean ====
section
/-! DEFINITION. The state of the SCE, of its ports and of the other two agents (10_state.md R20 to R44, 60_exceptions.md
R135, R138), and the state after reset (R41). -/

namespace Sys2Proof.Machine

/-- FSM, the sequencing register (R24), one constructor a code. -/
inductive Fsm where
  | idle
  | flush
  | tx
  | resp
  | accum
  | decode
  | reserved6
  | reserved7
deriving DecidableEq, Repr

/-- Why the SCE stops: the values of the sticky FAULT register other than none (R38). Not a hardware feature and no response:
"It marks a run the model gives no meaning". -/
inductive Fault where
  /-- LINK_CONTRACT, raised by a Read of REG_READ or CAPTURE whose chunk is longer than asked for (R87). Safe: the run
  stops. -/
  | linkContract
  /-- UNREACHABLE_FSM, raised by a step that finds FSM at 6 or 7 (R38), or would read unwritten state (R42), or finds the
  working registers in a combination that no rule leads to (log 13). Safe: the run stops. -/
  | unreachableFsm
deriving DecidableEq, Repr

/-- Why the SCE takes no step for what the host offers. -/
inductive Refusal where
  /-- An instruction that has no meaning yet, raised by an arm of exec. Safe. -/
  | notModelled (mnemonic : String)
  /-- A request record with op 5, 6 or 7: `host_req` does not accept it (R78, U18). Raised by the host's turn of a step.
  Safe. -/
  | reservedOp (op : BitVec 3)
  /-- A line written as a command frame that is no frame of R75. Raised by the host's turn of a step. Safe. -/
  | malformedFrame (e : DecodeError)
deriving DecidableEq, Repr

/-- The status of a response (R135). -/
inductive Status where
  | ok
  | connectionError
  | invalidArgument
  | incompleteFrame
  | ioError
  | responseTimeout
  | invalidState
  | aborted
deriving DecidableEq, Repr

/-- PixelRGB888 (R16, R71). -/
structure Pixel where
  r : Byte
  g : Byte
  b : Byte
deriving DecidableEq, Repr

/-- DecodedImage (R16, R49): `pixels` lists the grid row-major, top row first, so the pixel of row `y` and column `x` is
`pixels[y * width + x]`. -/
structure Image where
  width : Nat
  height : Nat
  pixels : List Pixel
deriving DecidableEq, Repr

/-- One response record (R138): fields are absent unless the status carries them. -/
structure Response where
  status : Status
  value : Option Byte := none
  image : Option Image := none
  received : Option Word := none
  expected : Option Word := none
deriving DecidableEq, Repr

/-- The link's answer to Open (R84). -/
inductive OpenAnswer where
  | ok
  | unavailable
deriving DecidableEq, Repr

/-- The link's answer to Flush or Write (R85, R86). -/
inductive LineAnswer where
  | ok
  | disconnected
deriving DecidableEq, Repr

/-- The link's answer to a Read (R87). -/
inductive ReadAnswer where
  | chunk (bytes : List Byte)
  | disconnected
deriving DecidableEq, Repr

/-- One event of the link history HIST (R40). -/
inductive LinkEvent where
  | opening (baud timeout : Word) (answer : OpenAnswer)
  | closing
  | flush (answer : LineAnswer)
  | write (bytes : List Byte) (answer : LineAnswer)
  | read (n : Nat) (answer : ReadAnswer)
deriving DecidableEq, Repr

/-- What the asynchronous inputs carry from one step boundary to the next: nothing, a pulse on the `teardown` port (R93,
R145) or a reset (R151). Log 9, log 10. -/
inductive Signal where
  | quiet
  /-- The pulse is there at the boundary, with no step under way. -/
  | teardown
  /-- The pulse arrives while the coming step is under way, and takes effect at the boundary after it. -/
  | teardownInStep
  | reset
deriving DecidableEq, Repr

/-- Whether a pseudo-operation waits for the response of its REG_READ or of its REG_WRITE (R127, R128, R129). -/
inductive HelperPhase where
  | awaitRead
  | awaitWrite
deriving DecidableEq, Repr

/-- The pseudo-operation the host is performing (R81): the model's own record of the host's place in its pseudocode. -/
structure Helper where
  op : HelperOp
  reg : Word
  bit : Word
  phase : HelperPhase
deriving DecidableEq, Repr

/-- The result of a pseudo-operation: its status, and for GET_BIT with OK the bit (R127 to R129). -/
structure HelperResult where
  status : Status
  bit : Option Byte := none
deriving DecidableEq, Repr

/-- BUF, the frame buffer (R33, R46): the written bytes by offset, offsets strictly rising; a byte not listed is
unwritten. -/
abbrev Memory := List Host.Cell

/-- The canonical form of BUF. An unlisted offset reads as unwritten, which no entry can hold. -/
abbrev Memory.wf (m : Memory) : Prop := m.Pairwise fun x y => x.1 < y.1

/-- The whole state. The first twelve fields are the SCE's (R20); the others are its ports and the other two agents
(R19, R21, R22), the model's own. -/
@[ext]
structure State where
  /-- SESS (R27): true is OPEN. -/
  sess : Bool
  /-- FSM (R24). -/
  fsm : Fsm
  /-- WIDTH (R28); `none` is unwritten. -/
  width : Option Word
  /-- HEIGHT (R28); `none` is unwritten. -/
  height : Option Word
  /-- BAUD (R30); `none` is unwritten. -/
  baud : Option Word
  /-- T_READ in milliseconds (R31); `none` is unwritten. -/
  tRead : Option Word
  /-- LEN (R32). -/
  len : Word
  /-- BUF (R33). -/
  buf : Memory
  /-- CUR (R34): the operation being performed, with its operands. -/
  cur : Option Instr
  /-- TXF (R35): the command frame being written. -/
  txf : Option (List Byte)
  /-- FAULT (R38). -/
  fault : Option Fault
  /-- HIST (R40). -/
  hist : List LinkEvent
  /-- The parameters of R7, which no step changes (log 3). -/
  params : Params
  /-- The lines the host has still to offer, the next one first (R21, R80; log 4). -/
  hostReq : List HostLine
  /-- The asynchronous inputs at the coming steps; past the end they are quiet (R93, R151; log 9). -/
  signals : List Signal
  /-- The link agent's coming answers (R22; log 1). -/
  link : List LinkAnswer
  /-- How many free link answers have been drawn (log 2). -/
  freeCount : Nat
  /-- The responses sent on `host_rsp`, images included (R21, R138; log 7). -/
  rsp : List Response
  /-- The pseudo-operation the host is performing (R81; log 7). -/
  helper : Option Helper
  /-- The results of the finished pseudo-operations (R127 to R129; log 7). -/
  results : List HelperResult
  /-- The pixels the PC returned for samples given to it alone (R117; log 6). -/
  pixOut : List Pixel
deriving DecidableEq, Repr

/-- The machine right after reset (R41), its ports idle. -/
def State.reset : State where
  sess := false
  fsm := .idle
  width := none
  height := none
  baud := none
  tRead := none
  len := 0
  buf := []
  cur := none
  txf := none
  fault := none
  hist := []
  params := Params.default
  hostReq := []
  signals := []
  link := []
  freeCount := 0
  rsp := []
  helper := none
  results := []
  pixOut := []

/-- What a step answers. -/
abbrev Answer := Host.Outcome State Fault Refusal

end Sys2Proof.Machine
end

