-- ==== Sys2Proof/Machine/Flags.lean ====
section
/-! DEFINITION. The SCE has no flag register and no operation writes a flag (10_state.md R26). What stands here are the
quantities R20 calls functions of the state, READY and BYTE_SIZE, and the numeric codes of FSM (R24) and of a status (R135). -/

namespace Sys2Proof.Machine

/-- The 3-bit code of an FSM value (R24). -/
def Fsm.code : Fsm → BitVec 3
  | .idle => 0
  | .flush => 1
  | .tx => 2
  | .resp => 3
  | .accum => 4
  | .decode => 5
  | .reserved6 => 6
  | .reserved7 => 7

/-- The numeric status code (R135). -/
def Status.code : Status → Nat
  | .ok => 0
  | .connectionError => 1
  | .invalidArgument => 2
  | .incompleteFrame => 3
  | .ioError => 4
  | .responseTimeout => 5
  | .invalidState => 6
  | .aborted => 7

/-- READY (R26): `FSM = IDLE and FAULT = none`. -/
def State.ready (s : State) : Bool := decide (s.fsm = .idle) && s.fault.isNone

/-- BYTE_SIZE (R29), exact; `none` while WIDTH or HEIGHT is unwritten. -/
def State.byteSize (s : State) : Option Nat :=
  match s.width, s.height with
  | some w, some h => some (byteSizeOf w h)
  | _, _ => none

/-- The images sent on `img_out`, in order: those the responses carry (R21, D37). -/
def State.imgOut (s : State) : List Image := s.rsp.filterMap (·.image)

end Sys2Proof.Machine
end

