-- ==== Sys2Proof/Machine/Memory.lean ====
section
/-! DEFINITION. The accesses to BUF (00_scope.md R12, 20_memory.md R46, R51, R55): one place for byte order and for what an
unwritten byte reads as. -/

namespace Sys2Proof.Machine

/-- The byte at an offset; `none` where nothing has written it (R33, R42). -/
def Memory.read : Memory → Nat → Option Byte
  | [], _ => none
  | (k, b) :: rest, a => if k = a then some b else Memory.read rest a

/-- The cells of a byte sequence laid out from offset `base` on. -/
def Memory.layout : Nat → List Byte → Memory
  | _, [] => []
  | base, b :: rest => (base, b) :: Memory.layout (base + 1) rest

/-- The consecutive single-byte writes of a chunk from `base` on, as one step (R55, D34): `MemWrite(base + j, 1, c[j])` for
every `j`. -/
def Memory.write (m : Memory) (base : Nat) (c : List Byte) : Memory :=
  m.filter (fun x => decide (x.1 < base)) ++ Memory.layout base c ++
    m.filter (fun x => decide (base + c.length ≤ x.1))

/-- `MemRead(a, 2)`, little-endian (R51); `none` if either byte is unwritten. -/
def Memory.read16 (m : Memory) (a : Nat) : Option Sample :=
  match Memory.read m a, Memory.read m (a + 1) with
  | some lo, some hi => some (sampleOf lo hi)
  | _, _ => none

end Sys2Proof.Machine
end

