-- ==== Sys2Proof/Machine/Ops.lean ====
section
/-! DEFINITION. The operations every meaning is made of: the link primitives (40_link_session.md R83 to R88), responding and
the cleanup after an error (60_exceptions.md R138, R139, R143), the model faults (10_state.md R38), teardown and reset (R93,
R151), and the sequence a command shares (41_command_codec.md R97). The SCE has no traps (R134, R146): what stands here in
place of exception entry is the error response; there is no return from it. -/

namespace Sys2Proof.Machine

/-! ## The link agent -/

/-- The link agent's next answer: the head of the script, or a free value (R22; log 1, log 2). -/
def State.answer (s : State) : LinkAnswer :=
  match s.link with
  | a :: _ => a
  | [] => Config.linkAnswer s.freeCount

/-- The state after the link agent has given that answer. -/
def State.takeAnswer (s : State) : State :=
  match s.link with
  | _ :: rest => { s with link := rest }
  | [] => { s with freeCount := s.freeCount + 1 }

/-- The answer to LinkOpen (R84). -/
def State.openAnswer (s : State) : OpenAnswer :=
  match s.answer with
  | .done _ => .ok
  | .failed => .unavailable

/-- The answer to LinkFlush or LinkWrite (R85, R86). -/
def State.lineAnswer (s : State) : LineAnswer :=
  match s.answer with
  | .done _ => .ok
  | .failed => .disconnected

/-- The answer to LinkRead(n) (R87). A free answer keeps the bound of R22, at most `n` bytes; a scripted one may break it,
which R87 makes a fault. -/
def State.readAnswer (s : State) (n : Nat) : ReadAnswer :=
  match s.link, s.answer with
  | _, .failed => .disconnected
  | _ :: _, .done c => .chunk c
  | [], .done c => .chunk (c.take n)

/-- Appends one event to HIST (R40). -/
def State.record (s : State) (e : LinkEvent) : State := { s with hist := s.hist ++ [e] }

/-- `LinkOpen(baud, t)` (R84). -/
def linkOpen (baud timeout : Word) (s : State) : State :=
  s.takeAnswer.record (.opening baud timeout s.openAnswer)

/-- `LinkFlush()` (R85). -/
def linkFlush (s : State) : State := s.takeAnswer.record (.flush s.lineAnswer)

/-- `LinkWrite(f)` (R86). -/
def linkWrite (f : List Byte) (s : State) : State := s.takeAnswer.record (.write f s.lineAnswer)

/-- `LinkRead(n)` (R87). -/
def linkRead (n : Nat) (s : State) : State := s.takeAnswer.record (.read n (s.readAnswer n))

/-- The events of closing: one Close while SESS = 1, none while SESS = 0 (R88, R91, R93). -/
def closeEvents : Bool → List LinkEvent
  | true => [.closing]
  | false => []

/-- `if SESS = 1: LinkClose(); SESS <- 0` (R88, R92; log 17). The answer is always Ok and takes none from the script
(log 1). -/
def closeLink (s : State) : State := { s with hist := s.hist ++ closeEvents s.sess, sess := false }

/-! ## Responses and errors -/

/-- `respond(st, fields)` (R138): one record on `host_rsp`; the operation ends, CUR is none, FSM is IDLE, and TXF is none
(R35: "in any case when the operation ends"). -/
def respond (r : Response) (s : State) : State :=
  { s with rsp := s.rsp ++ [r], cur := none, txf := none, fsm := .idle }

/-- Discards the working state of an operation: `LEN <- 0; BUF <- all unwritten; TXF <- none` (R93, R106, R143). -/
def clearWork (s : State) : State := { s with len := 0, buf := [], txf := none }

/-- `CUR <- request` (R34, R89). -/
def latch (i : Instr) (s : State) : State := { s with cur := some i }

/-- `TXF <- frame; FSM <- FLUSH` (R97). -/
def loadFrame (frame : List Byte) (s : State) : State := { s with txf := some frame, fsm := .flush }

/-- `FSM <- TX` (R97). -/
def toTx (s : State) : State := { s with fsm := .tx }

/-- `TXF <- none` (R97). -/
def dropFrame (s : State) : State := { s with txf := none }

/-- The IO_ERROR cleanup and response (R143). DESIGN CHOICE, log 26: its LinkClose and its response share the step of the
primitive answered Disconnected, so no TEARDOWN falls between the two link events. -/
def ioError (s : State) : State := respond { status := .ioError } (closeLink (clearWork s))

/-- `fault F` (R12, R38): FAULT is set, nothing else changes, no response is sent. -/
def raiseFault (f : Fault) (s : State) : State := { s with fault := some f }

/-- The model fault UNREACHABLE_FSM as a step (R38, R42; log 13). -/
def unreachable (s : State) : Answer := .next (raiseFault .unreachableFsm s)

/-- A step of an operation that ends with a response. -/
def finish (r : Response) (s : State) : Answer := .next (respond r s)

/-! ## The asynchronous inputs -/

/-- What the asynchronous inputs carry at this boundary. -/
def State.signal (s : State) : Signal :=
  match s.signals with
  | x :: _ => x
  | [] => .quiet

/-- The boundary has passed. -/
def State.passSignal (s : State) : State := { s with signals := s.signals.tail }

/-- A teardown pulse arrives while this step is under way (R93; log 9). -/
def State.torn (s : State) : Bool := decide (s.signal = .teardownInStep)

/-- What a command does after a link primitive: it uses the answer, unless a teardown pulse has arrived meanwhile. "A link
primitive in progress completes first, and its answer is discarded" (R93): the event stands, and nothing else follows from it.
`done` is the state after the primitive. An over-long chunk is no answer to discard: see `readPhase`. -/
def afterPrimitive (done : State) (use : Answer) : Answer := if done.torn then .next done else use

/-- The response to the operation in flight, if there is one, when it is torn down (R93). -/
def abortResponses : Option Instr → List Response
  | some _ => [{ status := .aborted }]
  | none => []

/-- TEARDOWN (R93): the operation in flight is answered ABORTED, the working state is cleared, an open link is closed. -/
def teardown (s : State) : State :=
  closeLink { clearWork s with rsp := s.rsp ++ abortResponses s.cur, cur := none, fsm := .idle }

/-- A reset that arrives in a run (R151): every register of the SCE takes its value of R41, and no link event happens. The
host's lines and the outputs it has already received stay; a pseudo-operation in progress is given up (log 10). -/
def resetSce (s : State) : State :=
  { State.reset with
    params := s.params, hostReq := s.hostReq, signals := s.signals, link := s.link, freeCount := s.freeCount,
    rsp := s.rsp, results := s.results, pixOut := s.pixOut }

/-! ## The shape of an operation -/

/-- One step of operation `i`: no step while FAULT is set (R38); from IDLE it is accepted and CUR latches it (R34, R89); while
it is in flight it goes on; while another operation is in flight it holds (R89, R156). -/
def operate (i : Instr) (accept resume : State → Answer) (s : State) : Answer :=
  match s.fault with
  | some f => .fault f
  | none =>
    if s.fsm = .idle then accept (latch i s)
    else if s.cur = some i then resume s
    else .next s

/-- The flush of IssueCommand (R97): on Ok the next step writes the frame (log 8). -/
def flushPhase (s : State) : Answer :=
  afterPrimitive (linkFlush s)
    (match s.lineAnswer with
    | .ok => .next (toTx (linkFlush s))
    | .disconnected => .next (ioError (linkFlush s)))

/-- The write of IssueCommand (R97), then what the operation does once its frame is sent. -/
def writePhase (sent : State → State) (s : State) : Answer :=
  match s.txf with
  | none => unreachable s
  | some f =>
    afterPrimitive (linkWrite f s)
      (match s.lineAnswer with
      | .ok => .next (sent (dropFrame (linkWrite f s)))
      | .disconnected => .next (ioError (linkWrite f s)))

/-- `LinkRead(n)` of a command and what follows from its answer (R87): a chunk longer than asked for is LINK_CONTRACT, whether
or not a pulse arrives during the Read (R38, D12, U15; log 9); Disconnected is IO_ERROR; else the operation goes on with the
chunk. -/
def readPhase (n : Nat) (got : List Byte → Answer) (s : State) : Answer :=
  match s.readAnswer n with
  | .disconnected => afterPrimitive (linkRead n s) (.next (ioError (linkRead n s)))
  | .chunk c =>
    if n < c.length then .next (raiseFault .linkContract (linkRead n s))
    else afterPrimitive (linkRead n s) (got c)

/-- The acceptance step of a command (R89, R99, R100, R105, R140): its argument check, the session check (R141), then TXF and
the flush of R97. -/
def acceptCommand (argsOk : Bool) (frame : List Byte) (s : State) : Answer :=
  if argsOk = false then finish { status := .invalidArgument } s
  else if s.sess = false then finish { status := .invalidState } s
  else flushPhase (loadFrame frame s)

/-- The later steps of a command, by FSM (R24); `resp` and `accum` are what it does in those states. DECODE is entered and
left inside a step (R138), and 6 and 7 are UNREACHABLE_FSM (R38). -/
def resumeCommand (sent : State → State) (resp accum : State → Answer) (s : State) : Answer :=
  match s.fsm with
  | .idle => unreachable s
  | .flush => flushPhase s
  | .tx => writePhase sent s
  | .resp => resp s
  | .accum => accum s
  | .decode => unreachable s
  | .reserved6 => unreachable s
  | .reserved7 => unreachable s

end Sys2Proof.Machine
end

