-- ==== Sys2Proof/Machine/Command.lean ====
section
/-! DEFINITION. The command encoder's two register operations (41_command_codec.md R95 to R104). -/

namespace Sys2Proof.Machine

/-- REG_WRITE once its frame is sent: OK, and nothing is read back (R99). -/
def regWriteSent (s : State) : State := respond { status := .ok } s

/-- REG_WRITE (R99). It has no RESP and no ACCUM state. -/
def execRegWrite (reg value : Word) (s : State) : Answer :=
  operate (.regWrite reg value)
    (acceptCommand (inRange8 reg && inRange8 value) (encWrite reg value))
    (resumeCommand regWriteSent unreachable unreachable) s

/-- REG_READ once its frame is sent: it waits for the response (R100). -/
def regReadSent (s : State) : State := { s with fsm := .resp }

/-- REG_READ's one Read (R100): no byte is RESPONSE_TIMEOUT, one byte the register's value (R101). -/
def readResponse (s : State) : Answer :=
  readPhase 1
    (fun
      | [] => finish { status := .responseTimeout } (linkRead 1 s)
      | v :: _ => finish { status := .ok, value := some v } (linkRead 1 s)) s

/-- REG_READ (R100). It has no ACCUM state. -/
def execRegRead (reg : Word) (s : State) : Answer :=
  operate (.regRead reg)
    (acceptCommand (inRange8 reg) (encRead reg))
    (resumeCommand regReadSent readResponse unreachable) s

end Sys2Proof.Machine
end

