-- ==== Sys2Proof/Machine/Bitfield.lean ====
section
/-! DEFINITION. The host's pseudo-operations SET_BIT, CLEAR_BIT and GET_BIT (44_bitfield_pseudo.md R127 to R133). They are
the host's, over REG_READ and REG_WRITE: the host reads the response of one request, and then issues the next. -/

namespace Sys2Proof.Machine

/-- The pseudo-operation ends with a result on the host. -/
def finishHelper (r : HelperResult) (s : State) : State :=
  { s with helper := none, results := s.results ++ [r] }

/-- The host waits for the response of a request of its pseudo-operation. -/
def awaiting (h : Helper) (s : State) : State := { s with helper := some h }

/-- The host issues the pseudo-operation's REG_READ (R131); its acceptance is in the same step. -/
def issueRead (op : HelperOp) (reg bit : Word) (s : State) : Answer :=
  execRegRead reg (awaiting { op := op, reg := reg, bit := bit, phase := .awaitRead } s)

/-- The host issues the REG_WRITE of `v` (R127, R128); its acceptance is in the same step. -/
def issueWrite (h : Helper) (v : Byte) (s : State) : Answer :=
  execRegWrite h.reg (zextWord v) (awaiting { h with phase := .awaitWrite } s)

/-- What the host does with the value its REG_READ returned. -/
def useValue (h : Helper) (v : Byte) (s : State) : Answer :=
  match h.op with
  | .set => issueWrite h (setBitOf v h.bit) s
  | .clear => issueWrite h (clearBitOf v h.bit) s
  | .get => .next (finishHelper { status := .ok, bit := some (getBitOf v h.bit) } s)

/-- What the host does with the response it waited for (R127 to R129, R133): a status other than OK is the result, and after
a failed read no write is issued. An OK read without a value does not occur (R138; log 13). -/
def useResponse (h : Helper) (r : Response) (s : State) : Answer :=
  match h.phase with
  | .awaitWrite => .next (finishHelper { status := r.status } s)
  | .awaitRead =>
    if r.status = .ok then
      match r.value with
      | some v => useValue h v s
      | none => unreachable s
    else .next (finishHelper { status := r.status } s)

/-- The host's next action in a pseudo-operation whose request has been answered. -/
def continueHelper (h : Helper) (s : State) : Answer :=
  match s.rsp.getLast? with
  | some r => useResponse h r s
  | none => unreachable s

/-- The host starts a pseudo-operation: the operand check first, with no request sent when it fails (R130). -/
def startHelper (op : HelperOp) (reg bit : Word) (s : State) : Answer :=
  if inRange8 reg && bitIndexOk bit then issueRead op reg bit s
  else .next (finishHelper { status := .invalidArgument } s)

/-- One action of the host in a pseudo-operation. While its request is in flight, or while another pseudo-operation is in
progress, it waits (R156). -/
def runHelper (op : HelperOp) (reg bit : Word) (s : State) : Answer :=
  match s.fault with
  | some f => .fault f
  | none =>
    if s.fsm ≠ .idle then .next s
    else
      match s.helper with
      | none => startHelper op reg bit s
      | some h => if h.op = op ∧ h.reg = reg ∧ h.bit = bit then continueHelper h s else .next s

/-- SET_BIT (R127). -/
def execSetBit (reg bit : Word) (s : State) : Answer := runHelper .set reg bit s

/-- CLEAR_BIT (R128). -/
def execClearBit (reg bit : Word) (s : State) : Answer := runHelper .clear reg bit s

/-- GET_BIT (R129). -/
def execGetBit (reg bit : Word) (s : State) : Answer := runHelper .get reg bit s

end Sys2Proof.Machine
end

