-- ==== Sys2Proof/Machine/PixelConverter.lean ====
section
/-! DEFINITION. The pixel converter (43_pixel_converter.md R117 to R126). -/

namespace Sys2Proof.Machine

/-- `Scale5(x) = (x * 255) div 31` (R118). -/
def scale5 (x : BitVec 5) : Byte := BitVec.ofNat 8 (x.toNat * 255 / 31)

/-- `Scale6(x) = (x * 255) div 63` (R118). -/
def scale6 (x : BitVec 6) : Byte := BitVec.ofNat 8 (x.toNat * 255 / 63)

/-- PIX_CONV of one sample (R117): three independent lanes (R121). -/
def pixelOf (v : Sample) : Pixel := { r := scale5 (red5 v), g := scale6 (green6 v), b := scale5 (blue5 v) }

/-- A pixel as one 24-bit word of `img_out`: r in [23:16], g in [15:8], b in [7:0] (R71). -/
def packPixel (p : Pixel) : BitVec 24 := (p.r ++ p.g) ++ p.b

/-- The pixels of indices `i` to `i + k - 1`, converted from BUF in row-major order (R123); `none` if a byte of them is
unwritten (R42). -/
def convertFrom (m : Memory) : Nat → Nat → Option (List Pixel)
  | 0, _ => some []
  | k + 1, i =>
    match Memory.read16 m (2 * i), convertFrom m k (i + 1) with
    | some v, some rest => some (pixelOf v :: rest)
    | _, _ => none

/-- `FrameDecode(W, H)` (R123). -/
def frameDecode (w h : Nat) (m : Memory) : Option Image :=
  match convertFrom m (w * h) 0 with
  | some pixels => some { width := w, height := h, pixels := pixels }
  | none => none

/-- The image cell of a row and a column (R49). -/
def imageAt (img : Image) (row col : Nat) : Option Pixel :=
  if row < img.height ∧ col < img.width then img.pixels[row * img.width + col]? else none

/-- Adds a pixel to the PC's own output (log 6). -/
def emitPixel (p : Pixel) (s : State) : State := { s with pixOut := s.pixOut ++ [p] }

/-- PIX_CONV as an operation of its own (R117): the PC returns the triple, which the model adds to `pixOut`; the SCE's
registers are untouched (R125; log 6). -/
def execPixConv (v : Sample) (s : State) : Answer :=
  match s.fault with
  | some f => .fault f
  | none => .next (emitPixel (pixelOf v) s)

end Sys2Proof.Machine
end

