-- ==== Sys2Proof/Machine/Capture.lean ====
section
/-! DEFINITION. The frame accumulator: CAPTURE (42_frame_assembler.md R105 to R116). -/

namespace Sys2Proof.Machine

/-- CAPTURE once its frame is sent: an empty BUF, LEN = 0, and the accumulation loop (R105, R106). -/
def captureSent (s : State) : State := { s with len := 0, buf := [], fsm := .accum }

/-- WIDTH and HEIGHT as an operation reads them: no values while SESS = 0 or while one is unwritten (R28: "no operation reads
them while SESS = 0"; R42). -/
def State.frameSpec (s : State) : Option (Word × Word) :=
  if s.sess then
    match s.width, s.height with
    | some w, some h => some (w, h)
    | _, _ => none
  else none

/-- The end of a completed CAPTURE (R105, R109): FrameDecode on the complete buffer, BUF discarded, the image in the
response. A read of WIDTH or HEIGHT with no session or unwritten, or of an unwritten byte of the frame, is UNREACHABLE_FSM
(R42). -/
def completeFrame (s : State) : Answer :=
  match s.frameSpec with
  | some (w, h) =>
    match frameDecode w.toNat h.toNat s.buf with
    | some img => finish { status := .ok, image := some img } (clearWork s)
    | none => unreachable s
  | none => unreachable s

/-- Appends a chunk to BUF at LEN (R108). -/
def appendChunk (c : List Byte) (s : State) : State :=
  { s with buf := Memory.write s.buf s.len.toNat c, len := s.len + BitVec.ofNat 32 c.length }

/-- After an append: the frame is complete, or the loop goes on (R105, R109, R111). -/
def afterAppend (size : Nat) (s : State) : Answer :=
  if s.len.toNat < size then .next s else completeFrame s

/-- INCOMPLETE_FRAME (R110): received and expected, the buffer discarded. -/
def incomplete (size : Nat) (s : State) : Answer :=
  finish { status := .incompleteFrame, received := some s.len, expected := some (BitVec.ofNat 32 size) } (clearWork s)

/-- One Read of the accumulation loop, for exactly the remaining count (R105, R107). -/
def accumulate (size : Nat) (s : State) : Answer :=
  let n := size - s.len.toNat
  readPhase n
    (fun c =>
      if c = [] then incomplete size (linkRead n s) else afterAppend size (appendChunk c (linkRead n s))) s

/-- The loop of R105 in state ACCUM: while LEN < BYTE_SIZE it reads; reading BYTE_SIZE with no session, or while it is
undefined, is UNREACHABLE_FSM (R42). -/
def accumPhase (s : State) : Answer :=
  match s.frameSpec with
  | none => unreachable s
  | some (w, h) => if s.len.toNat < byteSizeOf w h then accumulate (byteSizeOf w h) s else completeFrame s

/-- CAPTURE (R105). It has no operands to check (R95) and no RESP state. -/
def execCapture (s : State) : Answer :=
  operate .capture
    (acceptCommand true encCapture)
    (resumeCommand captureSent unreachable accumPhase) s

end Sys2Proof.Machine
end

