-- ==== Sys2Proof/Machine/Session.lean ====
section
/-! DEFINITION. The session operations OPEN and CLOSE (40_link_session.md R90, R91). -/

namespace Sys2Proof.Machine

/-- OPEN's registers after the link has answered Ok (R90): WIDTH, HEIGHT, BAUD, T_READ and SESS. -/
def latchSession (w h b t : Word) (s : State) : State :=
  { s with width := some w, height := some h, baud := some b, tRead := some t, sess := true }

/-- OPEN's link step (R90, R144). -/
def openLink (w h b t : Word) (s : State) : Answer :=
  match s.openAnswer with
  | .unavailable => finish { status := .connectionError } (linkOpen b t s)
  | .ok => finish { status := .ok } (latchSession w h b t (linkOpen b t s))

/-- OPEN's one step (R89, R90), the checks in the order of R140. -/
def acceptOpen (w h : Word) (baud timeout : Option Word) (s : State) : Answer :=
  if supported s.params w h = false then finish { status := .invalidArgument } s
  else if s.sess then finish { status := .invalidState } s
  else openLink w h (baud.getD s.params.baudDefault) (timeout.getD s.params.timeoutDefault) s

/-- OPEN (R90). It passes through no FSM value but IDLE (R24). -/
def execOpen (w h : Word) (baud timeout : Option Word) (s : State) : Answer :=
  operate (.openSession w h baud timeout) (acceptOpen w h baud timeout) unreachable s

/-- CLOSE's one step (R91). -/
def acceptClose (s : State) : Answer := finish { status := .ok } (closeLink s)

/-- CLOSE (R91). It passes through no FSM value but IDLE (R24). -/
def execClose (s : State) : Answer := operate .close acceptClose unreachable s

end Sys2Proof.Machine
end

