-- ==== Sys2Proof/Machine/Dispatch.lean ====
section
/-! DEFINITION. One arm per operation of the opcode table. -/

namespace Sys2Proof.Machine

def exec (i : Instr) (s : State) : Host.Outcome State Fault Refusal :=
  match i with
  | .openSession width height baud timeout => Sys2Proof.Machine.execOpen width height baud timeout s
  | .close => Sys2Proof.Machine.execClose s
  | .regWrite reg value => Sys2Proof.Machine.execRegWrite reg value s
  | .regRead reg => Sys2Proof.Machine.execRegRead reg s
  | .capture => Sys2Proof.Machine.execCapture s
  | .pixConv v => Sys2Proof.Machine.execPixConv v s
  | .setBit reg bit => Sys2Proof.Machine.execSetBit reg bit s
  | .clearBit reg bit => Sys2Proof.Machine.execClearBit reg bit s
  | .getBit reg bit => Sys2Proof.Machine.execGetBit reg bit s

end Sys2Proof.Machine
end

