-- ==== Sys2Proof/Machine/Advance.lean ====
section
/-! DEFINITION. What one step of the whole does: the asynchronous inputs, the SCE's operation in flight, and the host's turn
(10_state.md R24 to R26, 40_link_session.md R89, R93, 70_reset_and_hazards.md R151, R156). -/

namespace Sys2Proof.Machine

/-- The refusal of a line that is no operation (R78). -/
def refusalOf : DecodeError → Refusal
  | .reservedOp op => .reservedOp op
  | .emptyFrame => .malformedFrame .emptyFrame
  | .reservedFirstByte b => .malformedFrame (.reservedFirstByte b)
  | .truncatedFrame b => .malformedFrame (.truncatedFrame b)
  | .trailingBytes => .malformedFrame .trailingBytes

/-- The lines left on `host_req` once the next one is taken. -/
def leaveLines (rest : List HostLine) (s : State) : State := { s with hostReq := rest }

/-- The host's next line is taken from `host_req` and performed; with no line to offer the SCE stays READY (log 4). -/
def offerNext (s : State) : Answer :=
  match s.hostReq with
  | [] => .next s
  | line :: rest =>
    match decodeLine line with
    | .ok i => exec i (leaveLines rest s)
    | .error e => .refused (refusalOf e)

/-- The SCE is READY: the host goes on with its pseudo-operation, or offers its next line (R80, R89). -/
def hostTurn (s : State) : Answer :=
  match s.helper with
  | some h => exec (h.op.instr h.reg h.bit) s
  | none => offerNext s

/-- An operation is in flight: its next step (R24, R25). FSM = 6 or 7, or no latched operation, is UNREACHABLE_FSM (R38,
log 13). -/
def inFlight (s : State) : Answer :=
  match s.fsm, s.cur with
  | .reserved6, _ => unreachable s
  | .reserved7, _ => unreachable s
  | _, some i => exec i s
  | _, none => unreachable s

/-- What a step does between its two boundaries. -/
def proceed (s : State) : Answer := if s.fsm = .idle then hostTurn s else inFlight s

/-- The boundary after a step without a pulse. -/
def passed : Answer → Answer
  | .next t => .next t.passSignal
  | .fault f => .fault f
  | .refused r => .refused r

/-- The boundary after a step during which a teardown pulse arrived: it takes effect there while FAULT = none, and the
model counts it to the same step (R93; log 9). -/
def tearAfter : Answer → Answer
  | .next t =>
    match t.fault with
    | some _ => .next t.passSignal
    | none => .next (teardown t.passSignal)
  | .fault f => .fault f
  | .refused r => .refused r

/-- One step: a reset takes effect whatever the state (R38: only reset clears FAULT); with FAULT set there is no other step;
a teardown pulse takes effect at this boundary, or at the one after the step if it arrives during it (R93); else the machine
proceeds. -/
def advance (s : State) : Answer :=
  match s.signal with
  | .reset => .next (resetSce s.passSignal)
  | .teardown =>
    match s.fault with
    | some f => .fault f
    | none => .next (teardown s.passSignal)
  | .teardownInStep =>
    match s.fault with
    | some f => .fault f
    | none => tearAfter (proceed s)
  | .quiet =>
    match s.fault with
    | some f => .fault f
    | none => passed (proceed s)

/-- The state with a line at the head of `host_req` and the SCE READY with no signal, so that the next step performs that
line (log 5). On a READY state with a quiet boundary and no pseudo-operation only `host_req` changes. -/
def placeLine (line : HostLine) (s : State) : State :=
  { s with
    hostReq := line :: s.hostReq
    signals := if s.signal = .quiet then s.signals else .quiet :: s.signals
    fsm := .idle, cur := none, fault := none, helper := none }

end Sys2Proof.Machine
end

