-- ==== Sys2Proof/Machine/Assembler.lean ====
section
/-! DEFINITION. The textual form of host programs (30_encoding.md R80, R81): one operation a line, performed in order. -/

namespace Sys2Proof.Machine

/-- Why a text line is no operation of R80. -/
inductive SyntaxError where
  /-- The first word is none of the eight operation names. -/
  | unknownOperation
  /-- The operands are not as many as the operation takes, or an option is none of R80's. -/
  | badOperands
  /-- An operand is no decimal or 0x number, or is wider than 32 bits (R7, R72). -/
  | badNumber
deriving DecidableEq, Repr

/-- A blank of a text line. -/
def isBlank (c : Char) : Bool := c = ' ' || c = '\t' || c = '\r'

/-- A text without its leading and trailing blanks. -/
def trimBlanks (t : List Char) : List Char := ((t.dropWhile isBlank).reverse.dropWhile isBlank).reverse

/-- The pieces of a text between the occurrences of a separator. -/
def piecesAt (sep : Char) : List Char → List (List Char)
  | [] => [[]]
  | c :: rest =>
    if c = sep then [] :: piecesAt sep rest
    else
      match piecesAt sep rest with
      | p :: more => (c :: p) :: more
      | [] => [[c]]

/-- The value of a digit in base 16. -/
def digitValue (c : Char) : Option Nat :=
  let n := c.toNat
  if 48 ≤ n ∧ n ≤ 57 then some (n - 48)
  else if 97 ≤ n ∧ n ≤ 102 then some (n - 87)
  else if 65 ≤ n ∧ n ≤ 70 then some (n - 55)
  else none

/-- The digits of a number in a base, after the value `acc` of those before them. -/
def digitsValue (base : Nat) : Nat → List Char → Option Nat
  | acc, [] => some acc
  | acc, c :: rest =>
    match digitValue c with
    | some d => if d < base then digitsValue base (acc * base + d) rest else none
    | none => none

/-- "Numbers are decimal, or hexadecimal with `0x`" (R80). -/
def numberOf : List Char → Option Nat
  | [] => none
  | '0' :: 'x' :: d :: rest => digitsValue 16 0 (d :: rest)
  | c :: rest => digitsValue 10 0 (c :: rest)

/-- An operand field of the request record (R72): an unsigned 32-bit number. -/
def operandOf (t : List Char) : Except SyntaxError Word :=
  match numberOf t with
  | some n => if n < 2 ^ 32 then .ok (BitVec.ofNat 32 n) else .error .badNumber
  | none => .error .badNumber

/-- An option `<name>=<number>` of OPEN (R80), if the operand is one of that name. -/
def optionOf (name t : List Char) : Option (Except SyntaxError Word) :=
  match piecesAt '=' t with
  | [n, v] => if trimBlanks n = name then some (operandOf (trimBlanks v)) else none
  | _ => none

/-- The optional operands of OPEN: `baud=<n>`, then `timeout=<ms>`, each of which may be left out (R80). -/
def openOptions : List (List Char) → Except SyntaxError (Option Word × Option Word)
  | [] => .ok (none, none)
  | [a] =>
    match optionOf "baud".toList a, optionOf "timeout".toList a with
    | some (.ok b), _ => .ok (some b, none)
    | some (.error e), _ => .error e
    | none, some (.ok t) => .ok (none, some t)
    | none, some (.error e) => .error e
    | none, none => .error .badOperands
  | [a, b] =>
    match optionOf "baud".toList a, optionOf "timeout".toList b with
    | some (.ok x), some (.ok y) => .ok (some x, some y)
    | some (.error e), _ => .error e
    | _, some (.error e) => .error e
    | _, _ => .error .badOperands
  | _ => .error .badOperands

/-- A line with one numeric operand. -/
def line1 (f : Word → HostLine) : List (List Char) → Except SyntaxError (Option HostLine)
  | [a] =>
    match operandOf a with
    | .ok x => .ok (some (f x))
    | .error e => .error e
  | _ => .error .badOperands

/-- A line with two numeric operands. -/
def line2 (f : Word → Word → HostLine) : List (List Char) → Except SyntaxError (Option HostLine)
  | [a, b] =>
    match operandOf a, operandOf b with
    | .ok x, .ok y => .ok (some (f x y))
    | .error e, _ => .error e
    | _, .error e => .error e
  | _ => .error .badOperands

/-- A line without operands. -/
def line0 (l : HostLine) : List (List Char) → Except SyntaxError (Option HostLine)
  | [] => .ok (some l)
  | _ => .error .badOperands

/-- An OPEN line (R80). -/
def lineOpen : List (List Char) → Except SyntaxError (Option HostLine)
  | a :: b :: options =>
    match operandOf a, operandOf b, openOptions options with
    | .ok w, .ok h, .ok (baud, timeout) => .ok (some (encode (.openSession w h baud timeout)))
    | .error e, _, _ => .error e
    | _, .error e, _ => .error e
    | _, _, .error e => .error e
  | _ => .error .badOperands

/-- The line of an operation name and its operands (R80). -/
def lineOf (name : List Char) (operands : List (List Char)) : Except SyntaxError (Option HostLine) :=
  if name = "OPEN".toList then lineOpen operands
  else if name = "CLOSE".toList then line0 (encode .close) operands
  else if name = "REG_WRITE".toList then line2 (fun reg value => encode (.regWrite reg value)) operands
  else if name = "REG_READ".toList then line1 (fun reg => encode (.regRead reg)) operands
  else if name = "CAPTURE".toList then line0 (encode .capture) operands
  else if name = "SET_BIT".toList then line2 (.pseudo .set) operands
  else if name = "CLEAR_BIT".toList then line2 (.pseudo .clear) operands
  else if name = "GET_BIT".toList then line2 (.pseudo .get) operands
  else .error .unknownOperation

/-- The operands of a line: nothing, or pieces between commas. -/
def operandsOf (t : List Char) : List (List Char) :=
  if trimBlanks t = [] then [] else (piecesAt ',' t).map trimBlanks

/-- One text line (R80): text after `;` is a comment; a line with nothing else is no operation. -/
def parseLine (t : List Char) : Except SyntaxError (Option HostLine) :=
  let code := trimBlanks (t.takeWhile fun c => decide (c ≠ ';'))
  if code = [] then .ok none
  else lineOf (code.takeWhile fun c => !isBlank c) (operandsOf (code.dropWhile fun c => !isBlank c))

/-- The lines of a program, in order; the first line that is no operation is the error. -/
def parseLines : List (List Char) → Except SyntaxError (List HostLine)
  | [] => .ok []
  | t :: rest =>
    match parseLine t, parseLines rest with
    | .error e, _ => .error e
    | _, .error e => .error e
    | .ok none, .ok more => .ok more
    | .ok (some l), .ok more => .ok (l :: more)

/-- A host program from its text (R80). -/
def assemble (text : List Char) : Except SyntaxError (List HostLine) := parseLines (piecesAt '\n' text)

/-- The state whose host has this program to offer, in order (R80; log 4). -/
def loadProgram (lines : List HostLine) (s : State) : State := { s with hostReq := s.hostReq ++ lines }

end Sys2Proof.Machine
end

