-- ==== Sys2Proof/Safety.lean ====
section
/-! DEFINITION. What counts as a state a run can be in, and as a well-behaved link history, in the terms the statements
use. -/

namespace Sys2Proof.Safety

open Sys2Proof.Machine

/-- The FrameSpec registers of an open session (R27, R28, R30, R31, R44). -/
def SessionOk (s : State) : Prop :=
  s.sess = true →
    ∃ w h b t, s.width = some w ∧ s.height = some h ∧ s.baud = some b ∧ s.tRead = some t ∧ supported s.params w h = true

/-- The working registers when no operation is in flight (R24, R32, R33, R34, R35, R106, R139). -/
def IdleOk (s : State) : Prop := s.cur = none ∧ s.txf = none ∧ s.len = 0 ∧ s.buf = []

/-- A command whose flush has been answered and whose frame is latched (R35, R97). -/
def TxOk (s : State) : Prop :=
  s.sess = true ∧ s.len = 0 ∧ s.buf = [] ∧
    ∃ i f, s.cur = some i ∧ i.wf = true ∧ encodeFrame i = some f ∧ s.txf = some f

/-- A REG_READ whose frame has been sent (R100). -/
def RespOk (s : State) : Prop :=
  s.sess = true ∧ s.len = 0 ∧ s.buf = [] ∧ s.txf = none ∧ ∃ reg, s.cur = some (.regRead reg) ∧ inRange8 reg = true

/-- A CAPTURE in its accumulation loop: LEN below BYTE_SIZE, and exactly the bytes below LEN written (R32, R33, R108). -/
def AccumOk (s : State) : Prop :=
  s.sess = true ∧ s.txf = none ∧ s.cur = some .capture ∧
    ∃ n, s.byteSize = some n ∧ s.len.toNat < n ∧ ∀ a, (Memory.read s.buf a).isSome = true ↔ a < s.len.toNat

/-- The working registers between two steps, by FSM (R24, R138): FLUSH and DECODE are never seen, 6 and 7 never written. -/
def WorkOk (s : State) : Prop :=
  match s.fsm with
  | .idle => IdleOk s
  | .flush => False
  | .tx => TxOk s
  | .resp => RespOk s
  | .accum => AccumOk s
  | .decode => False
  | .reserved6 => False
  | .reserved7 => False

/-- A response carries only the fields R138 gives its status. -/
def ResponseOk (r : Response) : Prop :=
  (r.value.isSome = true → r.status = .ok) ∧ (r.image.isSome = true → r.status = .ok) ∧
    (r.value.isSome = true → r.image = none) ∧
    (r.received.isSome = true ↔ r.status = .incompleteFrame) ∧ (r.expected.isSome = true ↔ r.status = .incompleteFrame)

/-- What the host waits for: while a request of its pseudo-operation is in flight, that request is the latched one; when it
is answered, the last response answers it (R131, R133, R138). -/
def HelperOk (s : State) : Prop :=
  ∀ h, s.helper = some h →
    inRange8 h.reg = true ∧ bitIndexOk h.bit = true ∧ (h.op = .get → h.phase = .awaitRead) ∧
      (s.fsm = .idle →
        ∃ r, s.rsp.getLast? = some r ∧ (h.phase = .awaitRead → r.status = .ok → r.value.isSome = true)) ∧
      (s.fsm ≠ .idle → h.phase = .awaitRead → s.cur = some (.regRead h.reg)) ∧
      (s.fsm ≠ .idle → h.phase = .awaitWrite → ∃ v, s.cur = some (.regWrite h.reg v))

/-- The invariant of the machine. -/
structure Coherent (s : State) : Prop where
  bufCanonical : Memory.wf s.buf
  session : SessionOk s
  work : WorkOk s
  helper : HelperOk s
  responses : ∀ r ∈ s.rsp, ResponseOk r
  reachable : s.fault ≠ some .unreachableFsm

/-- Every Write of a link history comes right after a Flush answered Ok and carries one command frame (R77, R97, R98).
`armed` says whether the event before the list was such a Flush. -/
def framed : Bool → List LinkEvent → Bool
  | _, [] => true
  | armed, .write f _ :: rest =>
    armed && (match decodeFrame f with
      | .ok (_, []) => true
      | _ => false) && framed false rest
  | _, .flush .ok :: rest => framed true rest
  | _, .flush .disconnected :: rest => framed false rest
  | _, .opening _ _ _ :: rest => framed false rest
  | _, .closing :: rest => framed false rest
  | _, .read _ _ :: rest => framed false rest

/-- The history is framed, and in state TX the last event is the Flush that lets the frame be written (R97). -/
def HistoryFramed (s : State) : Prop :=
  framed false s.hist = true ∧ (s.fsm = .tx → s.hist.getLast? = some (.flush .ok))

/-- How many sessions a link history has opened (R17, R84). -/
def opened (h : List LinkEvent) : Nat :=
  h.countP fun e => match e with
    | .opening _ _ .ok => true
    | _ => false

/-- How many Close events a link history has (R88). -/
def closed (h : List LinkEvent) : Nat :=
  h.countP fun e => match e with
    | .closing => true
    | _ => false

/-- Every session opened has had exactly one Close, but for the one now open (R88, R92). -/
def SessionsBalanced (s : State) : Prop := opened s.hist = closed s.hist + (if s.sess then 1 else 0)

/-- The statuses each operation of the SCE can end with (R136). -/
def operationStatuses : Instr → Option (List Status)
  | .openSession _ _ _ _ => some [.ok, .invalidArgument, .invalidState, .connectionError]
  | .close => some [.ok]
  | .regWrite _ _ => some [.ok, .invalidArgument, .invalidState, .ioError, .aborted]
  | .regRead _ => some [.ok, .invalidArgument, .invalidState, .ioError, .responseTimeout, .aborted]
  | .capture => some [.ok, .invalidState, .ioError, .incompleteFrame, .aborted]
  | .pixConv _ => none
  | .setBit _ _ => none
  | .clearBit _ _ => none
  | .getBit _ _ => none

/-- The host has nothing more to do and the link is closed: the end R155 asks of a host program. -/
def cleanExit (s : State) : Bool := s.ready && s.hostReq.isEmpty && s.helper.isNone && !s.sess

/-- The working registers are as at the start of an operation (R139). -/
def workCleared (s : State) : Bool :=
  decide (s.len = 0) && s.buf.isEmpty && s.txf.isNone && s.cur.isNone && decide (s.fsm = .idle)

/-- The state without BAUD and T_READ, for the claim that no rule but LinkOpen reads them (R30, R31). -/
def forgetRates (s : State) : State := { s with baud := none, tRead := none }

/-- A step's answer without BAUD and T_READ. -/
def forgetRatesOf : Answer → Answer
  | .next s => .next (forgetRates s)
  | .fault f => .fault f
  | .refused r => .refused r

end Sys2Proof.Safety
end

