-- ==== Sys2Proof/Certificates/Slice0/Obligations.lean ====
section
/-! DEFINITION. The statements about the model, one definition each. `State.lineAnswer`, `State.openAnswer` and
`State.readAnswer` name the link agent's answer to the primitive a step is about to perform (R22); `State.takeAnswer` is the
state after that answer has been given, and differs from its argument in the link script and the count of free answers only.
A next state written as a record update says the whole frame: every field not named is as before, BUF's bytes among them.
`s.torn = false` says that no teardown pulse arrives while the step is under way; where one does, `TeardownAbortsAndCloses`
says what the step gives. `passed` moves an answer past the boundary after the step, and `tearAfter` does so where a pulse has
arrived during it (log 9). -/

open Sys2Proof Sys2Proof.Machine Sys2Proof.Safety

/-! ## Encodings -/

/-- Decode and encode agree on the wire, for every well-formed command and every operand value: a command frame at the head
of a byte stream decodes to its command, and the rest of the stream is left (R66, R67, R68, R73, R76). -/
def Obligations.CommandFrameDecodesToItsCommand : Prop :=
  ∀ (i : Instr) (f rest : List Byte), i.wf = true → encodeFrame i = some f → decodeFrame (f ++ rest) = .ok (i, rest)

/-- The other direction: what decodes as a command frame is the frame of that command, whose operands are in range; no bit of
a frame is dropped and no first byte but the three is accepted (R75, R76, R77). -/
def Obligations.DecodedFrameIsTheCommandsOwn : Prop :=
  ∀ (bytes rest : List Byte) (i : Instr), decodeFrame bytes = .ok (i, rest) →
    i.wf = true ∧ ∃ f, encodeFrame i = some f ∧ bytes = f ++ rest

/-- The frame word F of a well-formed command, its first byte most significant, decodes to the command (R65). -/
def Obligations.FrameWordOfACommandDecodes : Prop :=
  ∀ (i : Instr) (f : List Byte), i.wf = true → encodeFrame i = some f →
    decodeTableWord (8 * f.length) (frameWord f) = some i

/-- Words written out from the spec's encodings decode to what they stand for (R66 to R68, R72; V-ENC-3 and program P1). -/
def Obligations.SpecWordsDecode : Prop :=
  decodeTableWord 24 0xAA1280 = some (.regWrite 0x12 0x80) ∧
  decodeTableWord 16 0xBB0A = some (.regRead 0x0A) ∧
  decodeTableWord 8 0xCC = some .capture ∧
  decodeTableWord 8 1 = some .close ∧
  decodeTableWord 16 0x8410 = some (.pixConv 0x8410) ∧
  decodeTableWord 8 5 = none

/-- The three frame encoders, and that distinct in-range operands give distinct frames (R96). -/
def Obligations.FrameEncodersAreInjective : Prop :=
  (∀ reg value : Word, encWrite reg value = [0xAA, reg.extractLsb' 0 8, value.extractLsb' 0 8]) ∧
  (∀ reg : Word, encRead reg = [0xBB, reg.extractLsb' 0 8]) ∧
  encCapture = [0xCC] ∧
  (∀ r v r' v' : Word, inRange8 r = true → inRange8 v = true → inRange8 r' = true → inRange8 v' = true →
    encWrite r v = encWrite r' v' → r = r' ∧ v = v') ∧
  (∀ r r' : Word, inRange8 r = true → inRange8 r' = true → encRead r = encRead r' → r = r')

/-- HOST_OP selects the operation of a request record, and the fields an operation does not use are ignored (R72). -/
def Obligations.RequestRecordSelectsItsOperation : Prop :=
  ∀ (reg value width height : Word) (baud timeout : Option Word),
    decodeRequest ⟨0, reg, value, width, height, baud, timeout⟩ = .ok (.openSession width height baud timeout) ∧
    decodeRequest ⟨1, reg, value, width, height, baud, timeout⟩ = .ok .close ∧
    decodeRequest ⟨2, reg, value, width, height, baud, timeout⟩ = .ok (.regWrite reg value) ∧
    decodeRequest ⟨3, reg, value, width, height, baud, timeout⟩ = .ok (.regRead reg) ∧
    decodeRequest ⟨4, reg, value, width, height, baud, timeout⟩ = .ok .capture

/-- A request whose op is 5, 6 or 7 is refused when it is offered: no step, no response (R78; that the
model's record of it is the outcome `refused` is log 14). -/
def Obligations.ReservedRequestIsRefused : Prop :=
  ∀ (s : State) (r : Request) (rest : List HostLine), s.ready = true → s.signal = .quiet → s.helper = none →
    s.hostReq = .record r :: rest → 5 ≤ r.op.toNat → step s = .refused (.reservedOp r.op)

/-! ## The step -/

/-- A step runs the decoded instruction: READY, with no signal at the boundary and no pseudo-operation in progress, the step
takes the next line from `host_req` and is exec of the operation it decodes to, and then the boundary after it, with or
without a pulse that has arrived meanwhile (R80, R89, R93; the queue of lines is log 4, the tape of signals log 9). -/
def Obligations.StepRunsTheOfferedOperation : Prop :=
  ∀ (s : State) (line : HostLine) (rest : List HostLine) (i : Instr), s.ready = true → s.helper = none →
    s.hostReq = line :: rest → decodeLine line = .ok i →
    (s.signal = .quiet → step s = passed (exec i { s with hostReq := rest })) ∧
    (s.signal = .teardownInStep → step s = tearAfter (exec i { s with hostReq := rest }))

/-- While an operation is in flight the step is exec of the operation CUR latches, and then the boundary after it (R24, R25,
R34; the tape of signals is log 9). -/
def Obligations.StepRunsTheOperationInFlight : Prop :=
  ∀ (s : State) (i : Instr), s.fault = none → s.fsm ≠ .idle → s.fsm ≠ .reserved6 → s.fsm ≠ .reserved7 →
    s.cur = some i →
    (s.signal = .quiet → step s = passed (exec i s)) ∧ (s.signal = .teardownInStep → step s = tearAfter (exec i s))

/-- While READY with a pseudo-operation in progress the step is exec of that pseudo-operation, and then the boundary after it
(R81, R131; the host's place in its pseudocode is the model's record `helper`, log 7, the tape of signals log 9). -/
def Obligations.StepContinuesThePseudoOperation : Prop :=
  ∀ (s : State) (h : Helper), s.ready = true → s.helper = some h →
    (s.signal = .quiet → step s = passed (exec (h.op.instr h.reg h.bit) s)) ∧
    (s.signal = .teardownInStep → step s = tearAfter (exec (h.op.instr h.reg h.bit) s))

/-- An opcode-table word that decodes, placed where the next step takes its operation from, is what that step runs, on
whatever state, with no pulse in that step (the model's way in for the table's words, log 5). -/
def Obligations.PlacedTableWordIsTheNextOperation : Prop :=
  ∀ (s : State) (nbits w : Nat) (i : Instr), decodeTableWord nbits w = some i →
    step (s.withFetchWord nbits w) = passed (exec i { s.withFetchWord nbits w with hostReq := s.hostReq })

/-- While an operation is in flight no request is taken from `host_req`: the host holds, and no line is lost (R89, R156). -/
def Obligations.HostHoldsWhileAnOperationIsInFlight : Prop :=
  ∀ s t : State, s.fsm ≠ .idle → step s = .next t → t.hostReq = s.hostReq

/-! ## OPEN and CLOSE -/

/-- OPEN of a supported FrameSpec with no session, the link answering Ok: the session's registers, one Open event with the
requested or default rates, the response OK, and nothing else (R90; an omitted rate is `none`, log 22). -/
def Obligations.OpenCompletes : Prop :=
  ∀ (s : State) (w h : Word) (baud timeout : Option Word), s.ready = true → supported s.params w h = true →
    s.sess = false → s.openAnswer = .ok →
    exec (.openSession w h baud timeout) s = .next { s.takeAnswer with
      sess := true, width := some w, height := some h,
      baud := some (baud.getD s.params.baudDefault), tRead := some (timeout.getD s.params.timeoutDefault),
      hist := s.hist ++ [.opening (baud.getD s.params.baudDefault) (timeout.getD s.params.timeoutDefault) .ok],
      rsp := s.rsp ++ [{ status := .ok }], cur := none, txf := none }

/-- OPEN with the link unavailable: CONNECTION_ERROR, SESS stays 0 and the registers WIDTH to T_READ are unchanged, one Open
event and no other: no retry (R144). -/
def Obligations.OpenUnavailableLeavesTheRegisters : Prop :=
  ∀ (s : State) (w h : Word) (baud timeout : Option Word), s.ready = true → supported s.params w h = true →
    s.sess = false → s.openAnswer = .unavailable →
    exec (.openSession w h baud timeout) s = .next { s.takeAnswer with
      hist := s.hist ++ [.opening (baud.getD s.params.baudDefault) (timeout.getD s.params.timeoutDefault) .unavailable],
      rsp := s.rsp ++ [{ status := .connectionError }], cur := none, txf := none }

/-- OPEN refused by a check, in the order of R140: a FrameSpec that is not supported is INVALID_ARGUMENT whatever SESS is,
then an open session is INVALID_STATE; no link event, and every register as it was (R90, R140). -/
def Obligations.OpenChecksItsArgumentsFirst : Prop :=
  ∀ (s : State) (w h : Word) (baud timeout : Option Word), s.ready = true →
    (supported s.params w h = false → exec (.openSession w h baud timeout) s =
      .next { s with rsp := s.rsp ++ [{ status := .invalidArgument }], cur := none, txf := none }) ∧
    (supported s.params w h = true → s.sess = true → exec (.openSession w h baud timeout) s =
      .next { s with rsp := s.rsp ++ [{ status := .invalidState }], cur := none, txf := none })

/-- CLOSE always succeeds: with a session open it closes the link and SESS becomes 0, without one it does nothing to the
link; WIDTH, HEIGHT and the rest keep their values (R91). -/
def Obligations.CloseCompletes : Prop :=
  ∀ s : State, s.ready = true →
    (s.sess = true → exec .close s = .next { s with
      sess := false, hist := s.hist ++ [.closing], rsp := s.rsp ++ [{ status := .ok }], cur := none, txf := none }) ∧
    (s.sess = false → exec .close s = .next { s with
      rsp := s.rsp ++ [{ status := .ok }], cur := none, txf := none })

/-! ## The commands -/

/-- A well-formed command in an open session, its flush answered Ok: CUR and TXF are latched, one Flush event, and the frame
is written next (R89, R97, R98; FSM = TX between the steps is log 8). -/
def Obligations.CommandIsAcceptedWithOneFlush : Prop :=
  ∀ (s : State) (i : Instr) (f : List Byte), s.ready = true → s.sess = true → i.wf = true → encodeFrame i = some f →
    s.torn = false → s.lineAnswer = .ok →
    exec i s = .next { s.takeAnswer with
      cur := some i, txf := some f, fsm := .tx, hist := s.hist ++ [.flush .ok] }

/-- An operand above 0xFF is INVALID_ARGUMENT with no link event, whether a session is open or not (R95, R140). -/
def Obligations.OutOfRangeOperandIsInvalidArgument : Prop :=
  ∀ (s : State) (reg value : Word), s.ready = true →
    (inRange8 reg = false ∨ inRange8 value = false → exec (.regWrite reg value) s =
      .next { s with rsp := s.rsp ++ [{ status := .invalidArgument }], cur := none, txf := none }) ∧
    (inRange8 reg = false → exec (.regRead reg) s =
      .next { s with rsp := s.rsp ++ [{ status := .invalidArgument }], cur := none, txf := none })

/-- The session check: a well-formed command with SESS = 0 is INVALID_STATE with no link event, OPEN of a supported FrameSpec
with SESS = 1 too, and CLOSE has no requirement (R141). -/
def Obligations.SessionCheck : Prop :=
  ∀ s : State, s.ready = true →
    (∀ i f, encodeFrame i = some f → i.wf = true → s.sess = false → exec i s =
      .next { s with rsp := s.rsp ++ [{ status := .invalidState }], cur := none, txf := none }) ∧
    (∀ w h baud timeout, supported s.params w h = true → s.sess = true → exec (.openSession w h baud timeout) s =
      .next { s with rsp := s.rsp ++ [{ status := .invalidState }], cur := none, txf := none }) ∧
    ∃ t, exec .close s = .next t ∧ t.rsp = s.rsp ++ [{ status := .ok }]

/-- REG_WRITE completes when its frame has been written: OK, one Write event with the latched frame, and nothing is read
(R99). -/
def Obligations.RegWriteCompletes : Prop :=
  ∀ (s : State) (reg value : Word) (f : List Byte), s.fault = none → s.fsm = .tx → s.cur = some (.regWrite reg value) →
    s.txf = some f → s.torn = false → s.lineAnswer = .ok →
    exec (.regWrite reg value) s = .next { s.takeAnswer with
      hist := s.hist ++ [.write f .ok], txf := none, rsp := s.rsp ++ [{ status := .ok }], cur := none, fsm := .idle }

/-- REG_READ's frame has been written: it waits for the response byte, with the operation still latched (R100). -/
def Obligations.RegReadSendsItsFrame : Prop :=
  ∀ (s : State) (reg : Word) (f : List Byte), s.fault = none → s.fsm = .tx → s.cur = some (.regRead reg) →
    s.txf = some f → s.torn = false → s.lineAnswer = .ok →
    exec (.regRead reg) s = .next { s.takeAnswer with
      hist := s.hist ++ [.write f .ok], txf := none, fsm := .resp }

/-- REG_READ completes with the byte its one Read returns, unchanged and unchecked (R101, R100). -/
def Obligations.RegReadReturnsTheByte : Prop :=
  ∀ (s : State) (reg : Word) (v : Byte), s.fault = none → s.fsm = .resp → s.cur = some (.regRead reg) →
    s.torn = false → s.readAnswer 1 = .chunk [v] →
    exec (.regRead reg) s = .next { s.takeAnswer with
      hist := s.hist ++ [.read 1 (.chunk [v])], rsp := s.rsp ++ [{ status := .ok, value := some v }],
      cur := none, txf := none, fsm := .idle }

/-- A REG_READ whose one Read returns no byte ends with RESPONSE_TIMEOUT, once and without a retry; the session and its
registers stay (R100, R142). -/
def Obligations.RegReadTimesOut : Prop :=
  ∀ (s : State) (reg : Word), s.fault = none → s.fsm = .resp → s.cur = some (.regRead reg) →
    s.torn = false → s.readAnswer 1 = .chunk [] →
    exec (.regRead reg) s = .next { s.takeAnswer with
      hist := s.hist ++ [.read 1 (.chunk [])], rsp := s.rsp ++ [{ status := .responseTimeout }],
      cur := none, txf := none, fsm := .idle }

/-- A Read answered with more bytes than it asked for is LINK_CONTRACT: FAULT is set, the event is recorded, no byte is
appended and no response is sent; the third clause says it of the whole step, with a quiet boundary and with a teardown pulse
that arrives during the Read alike (R38, R87; that the fault is this step's next state is log 12, the tape of signals
log 9). -/
def Obligations.OverlongChunkIsALinkContractFault : Prop :=
  (∀ (s : State) (reg : Word) (c : List Byte), s.fault = none → s.fsm = .resp → s.cur = some (.regRead reg) →
    s.readAnswer 1 = .chunk c → 1 < c.length →
    exec (.regRead reg) s = .next { s.takeAnswer with
      hist := s.hist ++ [.read 1 (.chunk c)], fault := some .linkContract }) ∧
  (∀ (s : State) (size : Nat) (c : List Byte), s.fault = none → s.fsm = .accum → s.cur = some .capture →
    s.sess = true → s.byteSize = some size → s.len.toNat < size →
    s.readAnswer (size - s.len.toNat) = .chunk c → size - s.len.toNat < c.length →
    exec .capture s = .next { s.takeAnswer with
      hist := s.hist ++ [.read (size - s.len.toNat) (.chunk c)], fault := some .linkContract }) ∧
  (∀ (s : State) (n : Nat) (c : List Byte), s.fault = none → s.signal = .quiet ∨ s.signal = .teardownInStep →
    (s.fsm = .resp ∧ (∃ reg, s.cur = some (.regRead reg)) ∧ n = 1) ∨
      (∃ size, s.fsm = .accum ∧ s.cur = some .capture ∧ s.sess = true ∧ s.byteSize = some size ∧ s.len.toNat < size ∧
        n = size - s.len.toNat) →
    s.readAnswer n = .chunk c → n < c.length →
    step s = .next { s.takeAnswer with
      signals := s.signals.tail, hist := s.hist ++ [.read n (.chunk c)], fault := some .linkContract })

/-- The IO_ERROR cleanup, for a Disconnected answer to the flush, the write or a Read of any command in an open session: LEN
is 0, BUF unwritten, TXF none, a Close event follows the failed one, SESS is 0, and the response is IO_ERROR; every later
command is then INVALID_STATE (R143; that the Close and the response share the step of the failed primitive is log 26). -/
def Obligations.DisconnectClosesTheSession : Prop :=
  ∀ (s : State) (i : Instr) (f : List Byte), s.fault = none → s.sess = true → encodeFrame i = some f →
    s.torn = false → ∀ e : LinkEvent,
      ((s.fsm = .idle ∧ i.wf = true ∧ s.lineAnswer = .disconnected ∧ e = .flush .disconnected) ∨
        (s.fsm = .tx ∧ s.cur = some i ∧ ∃ g, s.txf = some g ∧ s.lineAnswer = .disconnected ∧ e = .write g .disconnected) ∨
        (s.fsm = .resp ∧ s.cur = some i ∧ (∃ reg, i = .regRead reg) ∧ s.readAnswer 1 = .disconnected ∧
          e = .read 1 .disconnected) ∨
        (s.fsm = .accum ∧ s.cur = some i ∧ i = .capture ∧ ∃ size, s.byteSize = some size ∧ s.len.toNat < size ∧
          s.readAnswer (size - s.len.toNat) = .disconnected ∧ e = .read (size - s.len.toNat) .disconnected)) →
      ∃ t, exec i s = .next t ∧
        t = { s.takeAnswer with
          len := 0, buf := [], txf := none, hist := s.hist ++ [e, .closing], sess := false,
          rsp := s.rsp ++ [{ status := .ioError }], cur := none, fsm := .idle } ∧
        ∀ (j : Instr) (g : List Byte), encodeFrame j = some g → j.wf = true →
          ∃ u, exec j t = .next u ∧ u.rsp = t.rsp ++ [{ status := .invalidState }] ∧ u.hist = t.hist

/-! ## CAPTURE -/

/-- CAPTURE's frame has been written: LEN is 0, every byte of BUF is unwritten, and the accumulation loop begins (R105,
R106). -/
def Obligations.CaptureSendsItsFrame : Prop :=
  ∀ (s : State) (f : List Byte), s.fault = none → s.fsm = .tx → s.cur = some .capture → s.txf = some f →
    s.torn = false → s.lineAnswer = .ok →
    exec .capture s = .next { s.takeAnswer with
      hist := s.hist ++ [.write f .ok], txf := none, len := 0, buf := [], fsm := .accum }

/-- A chunk shorter than the remaining count is appended and the loop goes on: the Read asks for exactly the remaining count,
the chunk's bytes stand at LEN and after, every other byte of BUF is as before, and LEN grows by the chunk's length (R107,
R108, R111). -/
def Obligations.CaptureAppendsAShortChunk : Prop :=
  ∀ (s : State) (size : Nat) (c : List Byte), s.fault = none → s.fsm = .accum → s.cur = some .capture →
    s.sess = true → s.byteSize = some size → size < 2 ^ 32 → s.torn = false →
    s.readAnswer (size - s.len.toNat) = .chunk c → c ≠ [] → s.len.toNat + c.length < size →
    ∃ t, exec .capture s = .next t ∧
      t = { s.takeAnswer with
        hist := s.hist ++ [.read (size - s.len.toNat) (.chunk c)], buf := t.buf, len := t.len } ∧
      t.len.toNat = s.len.toNat + c.length ∧
      (∀ j, j < c.length → Memory.read t.buf (s.len.toNat + j) = (c)[j]?) ∧
      (∀ a, a < s.len.toNat ∨ s.len.toNat + c.length ≤ a → Memory.read t.buf a = Memory.read s.buf a)

/-- A Read that returns zero bytes ends the CAPTURE at once with INCOMPLETE_FRAME, `received = LEN` and
`expected = BYTE_SIZE`, no image, and the buffer discarded; the session stays (R110). -/
def Obligations.CaptureReportsAnIncompleteFrame : Prop :=
  ∀ (s : State) (size : Nat), s.fault = none → s.fsm = .accum → s.cur = some .capture → s.sess = true →
    s.byteSize = some size → s.len.toNat < size → s.torn = false → s.readAnswer (size - s.len.toNat) = .chunk [] →
    exec .capture s = .next { s.takeAnswer with
      hist := s.hist ++ [.read (size - s.len.toNat) (.chunk [])],
      rsp := s.rsp ++
        [{ status := .incompleteFrame, received := some s.len, expected := some (BitVec.ofNat 32 size) }],
      len := 0, buf := [], txf := none, cur := none, fsm := .idle }

/-- The chunk that makes LEN equal BYTE_SIZE completes the frame: the response OK carries the image whose cell at a row and a
column is the conversion of the little-endian sample at offset 2*(row*WIDTH + column) of the completed buffer, and the buffer
is discarded (R105, R109, R123). -/
def Obligations.CaptureCompletesOnTheLastChunk : Prop :=
  ∀ (s : State) (w h : Word) (size : Nat) (c : List Byte), s.fault = none → s.fsm = .accum → s.cur = some .capture →
    s.sess = true → s.width = some w → s.height = some h → size = byteSizeOf w h → size < 2 ^ 32 →
    (∀ a, a < s.len.toNat → (Memory.read s.buf a).isSome = true) → s.torn = false →
    s.readAnswer (size - s.len.toNat) = .chunk c → c ≠ [] → s.len.toNat + c.length = size →
    ∃ img : Image,
      exec .capture s = .next { s.takeAnswer with
        hist := s.hist ++ [.read (size - s.len.toNat) (.chunk c)],
        rsp := s.rsp ++ [{ status := .ok, image := some img }],
        len := 0, buf := [], txf := none, cur := none, fsm := .idle } ∧
      img.width = w.toNat ∧ img.height = h.toNat ∧ img.pixels.length = w.toNat * h.toNat ∧
      ∀ row col, row < h.toNat → col < w.toNat →
        ∃ v, Memory.read16 (Memory.write s.buf s.len.toNat c) (2 * (row * w.toNat + col)) = some v ∧
          imageAt img row col = some (pixelOf v)

/-- A frame does not depend on how it is cut into chunks: from a READY state whose host offers CAPTURE, for every list of
non-empty chunks that together hold BYTE_SIZE bytes, the run of one step for the flush, one for the write and one a chunk ends
with the one image that the concatenation of the chunks gives (R52, R60, R105, R109; that count of steps is log 8). -/
def Obligations.CapturedImageDoesNotDependOnChunking : Prop :=
  ∀ (s : State) (w h : Word) (a b : List Byte) (chunks : List (List Byte)) (rest : List LinkAnswer)
    (lines : List HostLine),
    s.ready = true → s.helper = none → s.signals = [] → s.hostReq = encode .capture :: lines → s.sess = true →
    s.width = some w → s.height = some h → 0 < byteSizeOf w h → byteSizeOf w h < 2 ^ 32 →
    s.link = .done a :: .done b :: (chunks.map .done ++ rest) → (∀ c ∈ chunks, c ≠ []) →
    chunks.flatten.length = byteSizeOf w h →
    ∃ (t : State) (img : Image),
      Host.Core.run Sys2Proof.core (2 + chunks.length) s = .next t ∧
      frameDecode w.toNat h.toNat (Memory.layout 0 chunks.flatten) = some img ∧
      t.rsp = s.rsp ++ [{ status := .ok, image := some img }] ∧
      t.sess = true ∧ t.fsm = .idle ∧ t.len = 0 ∧ t.buf = [] ∧ t.link = rest ∧ t.hostReq = lines

/-- A CAPTURE in its loop ends within as many steps as bytes are missing, whatever the link answers and whatever signals
arrive: FSM is IDLE again, or the link has broken its contract. R113 bounds the Reads; that the bound holds for steps is the
model's choice: one step a Read (log 8), and the Close of a cleanup or of a teardown that arrives during the Read shares its
step (log 26, log 9). -/
def Obligations.CaptureEndsWithinItsMissingBytes : Prop :=
  ∀ (s : State) (size : Nat), Coherent s → s.fsm = .accum → s.byteSize = some size →
    ∃ (k : Nat) (t : State), k ≤ size - s.len.toNat ∧ Host.Core.run Sys2Proof.core k s = .next t ∧
      (t.fsm = .idle ∨ t.fault = some .linkContract)

/-- A CAPTURE step that answers OK, from a state of the invariant, does so on the chunk `c` that its Read returns and that
makes LEN equal BYTE_SIZE, and answers with the image of exactly WIDTH x HEIGHT pixels that FrameDecode gives from BUF with `c`
appended at LEN, in which exactly the BYTE_SIZE bytes of the frame are written: none is filled in (R114, R110, R108). -/
def Obligations.CaptureOkCarriesAWholeImage : Prop :=
  ∀ (s t : State) (r : Response), Coherent s → exec .capture s = .next t → t.rsp = s.rsp ++ [r] → r.status = .ok →
    ∃ (w h : Word) (img : Image) (c : List Byte) (m : Memory), s.width = some w ∧ s.height = some h ∧
      s.readAnswer (byteSizeOf w h - s.len.toNat) = .chunk c ∧ s.len.toNat + c.length = byteSizeOf w h ∧
      m = Memory.write s.buf s.len.toNat c ∧ (∀ a, (Memory.read m a).isSome = true ↔ a < byteSizeOf w h) ∧
      r.image = some img ∧ frameDecode w.toNat h.toNat m = some img ∧
      img.width = w.toNat ∧ img.height = h.toNat ∧ img.pixels.length = w.toNat * h.toNat

/-! ## The pixel converter -/

/-- PIX_CONV: each channel is its field of the sample times 255, divided by 31 or 63 with floor; it is total, and given to the
PC alone it changes no register of the SCE (R117, R118; that its triple goes to `pixOut` is log 6). -/
def Obligations.PixConvCompletes : Prop :=
  ∀ (s : State) (v : Sample), s.fault = none →
    ∃ p : Pixel, exec (.pixConv v) s = .next { s with pixOut := s.pixOut ++ [p] } ∧
      p.r.toNat = v.toNat / 2048 % 32 * 255 / 31 ∧
      p.g.toNat = v.toNat / 32 % 64 * 255 / 63 ∧
      p.b.toNat = v.toNat % 32 * 255 / 31

/-- The tables SCALE5 and SCALE6 hold the rescale of every index (R119), which keeps the ends and is strictly increasing, so
that no two channel values map to one output (R120). -/
def Obligations.ScaleTablesHoldAStrictlyIncreasingRescale : Prop :=
  scale5Table.length = 32 ∧ scale6Table.length = 64 ∧
  (∀ x : BitVec 5, scale5Table[x.toNat]? = some (scale5 x).toNat) ∧
  (∀ x : BitVec 6, scale6Table[x.toNat]? = some (scale6 x).toNat) ∧
  scale5 0 = 0 ∧ scale5 31 = 255 ∧ scale6 0 = 0 ∧ scale6 63 = 255 ∧
  (∀ x y : BitVec 5, x.toNat < y.toNat → (scale5 x).toNat < (scale5 y).toNat) ∧
  (∀ x y : BitVec 6, x.toNat < y.toNat → (scale6 x).toNat < (scale6 y).toNat)

/-- A pixel as one 24-bit word of `img_out`: r in [23:16], g in [15:8] and b in [7:0], and distinct pixels give distinct
words (R71). -/
def Obligations.PackedPixelPlacesItsChannels : Prop :=
  ∀ p : Pixel, (packPixel p).extractLsb' 16 8 = p.r ∧ (packPixel p).extractLsb' 8 8 = p.g ∧
    (packPixel p).extractLsb' 0 8 = p.b ∧ ∀ q : Pixel, packPixel p = packPixel q → p = q

/-- FrameDecode of a buffer whose first 2*W*H bytes are written gives the W x H image whose cell at row `i div W`, column
`i mod W` is PIX_CONV of the little-endian sample at offset 2*i; if a byte is missing it gives none (R51, R123, R42). -/
def Obligations.FrameDecodeIsRowMajorAndLittleEndian : Prop :=
  ∀ (w h : Nat) (m : Memory),
    ((∀ a, a < 2 * (w * h) → (Memory.read m a).isSome = true) →
      ∃ img, frameDecode w h m = some img ∧ img.width = w ∧ img.height = h ∧ img.pixels.length = w * h ∧
        ∀ i lo hi, i < w * h → Memory.read m (2 * i) = some lo → Memory.read m (2 * i + 1) = some hi →
          ∃ v : Sample, v.toNat = lo.toNat + 256 * hi.toNat ∧ imageAt img (i / w) (i % w) = some (pixelOf v)) ∧
    ((∃ a, a < 2 * (w * h) ∧ Memory.read m a = none) → frameDecode w h m = none)

/-! ## The pseudo-operations -/

/-- A pseudo-operation with a bit index above 7 or a register above 0xFF yields INVALID_ARGUMENT without sending any request
(R130; the result goes to the model's record `results`, log 7). -/
def Obligations.PseudoOperandCheckSendsNothing : Prop :=
  ∀ (s : State) (op : HelperOp) (reg bit : Word), s.ready = true → s.helper = none →
    7 < bit.toNat ∨ 0xFF < reg.toNat →
    exec (op.instr reg bit) s = .next { s with results := s.results ++ [{ status := .invalidArgument }] }

/-- A pseudo-operation begins with its REG_READ, accepted in the same step: read before write (R127, R128, R129, R131; the
same step is log 7, FSM = TX after it log 8). -/
def Obligations.PseudoOperationBeginsWithItsRead : Prop :=
  ∀ (s : State) (op : HelperOp) (reg bit : Word), s.ready = true → s.helper = none → s.sess = true →
    reg.toNat ≤ 0xFF → bit.toNat ≤ 7 → s.torn = false → s.lineAnswer = .ok →
    exec (op.instr reg bit) s = .next { s.takeAnswer with
      helper := some { op := op, reg := reg, bit := bit, phase := .awaitRead },
      cur := some (.regRead reg), txf := some [0xBB, lowByte reg], fsm := .tx, hist := s.hist ++ [.flush .ok] }

/-- SET_BIT and CLEAR_BIT, once their REG_READ has answered OK with `v`, issue the REG_WRITE of `v` with the bit set or
cleared, in that order, from that value (R127, R128, R131; acceptance in the same step is log 7, FSM = TX after it log 8). -/
def Obligations.SetAndClearWriteTheReadValueBack : Prop :=
  ∀ (s : State) (reg bit : Word) (v : Byte), s.ready = true → s.sess = true → reg.toNat ≤ 0xFF →
    s.torn = false → s.lineAnswer = .ok → s.rsp.getLast? = some { status := .ok, value := some v } →
    (s.helper = some { op := .set, reg := reg, bit := bit, phase := .awaitRead } →
      exec (.setBit reg bit) s = .next { s.takeAnswer with
        helper := some { op := .set, reg := reg, bit := bit, phase := .awaitWrite },
        cur := some (.regWrite reg (zextWord (v ||| (1#8 <<< bit.toNat)))),
        txf := some [0xAA, lowByte reg, v ||| (1#8 <<< bit.toNat)], fsm := .tx, hist := s.hist ++ [.flush .ok] }) ∧
    (s.helper = some { op := .clear, reg := reg, bit := bit, phase := .awaitRead } →
      exec (.clearBit reg bit) s = .next { s.takeAnswer with
        helper := some { op := .clear, reg := reg, bit := bit, phase := .awaitWrite },
        cur := some (.regWrite reg (zextWord (v &&& (0xFF#8 ^^^ (1#8 <<< bit.toNat))))),
        txf := some [0xAA, lowByte reg, v &&& (0xFF#8 ^^^ (1#8 <<< bit.toNat))], fsm := .tx,
        hist := s.hist ++ [.flush .ok] })

/-- SET_BIT and CLEAR_BIT end with the status of their REG_WRITE, GET_BIT with OK and the bit of the value its REG_READ
returned; only the host's own record changes (R127, R128, R129; that record, and that the host
reacts in the step after the response, is log 7). -/
def Obligations.PseudoOperationsComplete : Prop :=
  ∀ (s : State) (reg bit : Word) (r : Response), s.ready = true → s.rsp.getLast? = some r →
    (s.helper = some { op := .set, reg := reg, bit := bit, phase := .awaitWrite } →
      exec (.setBit reg bit) s =
        .next { s with helper := none, results := s.results ++ [{ status := r.status }] }) ∧
    (s.helper = some { op := .clear, reg := reg, bit := bit, phase := .awaitWrite } →
      exec (.clearBit reg bit) s =
        .next { s with helper := none, results := s.results ++ [{ status := r.status }] }) ∧
    (∀ v, r = { status := .ok, value := some v } → bit.toNat ≤ 7 →
      s.helper = some { op := .get, reg := reg, bit := bit, phase := .awaitRead } →
      exec (.getBit reg bit) s = .next { s with
        helper := none,
        results := s.results ++ [{ status := .ok, bit := some (if v.getLsbD bit.toNat then 1 else 0) }] })

/-- If the REG_READ of a pseudo-operation ends in anything other than OK, the pseudo-operation yields that status and issues
no REG_WRITE; if its REG_WRITE fails, it yields the write's status (R133; the result goes to the model's record
`results`, log 7). -/
def Obligations.PseudoErrorsPropagateUnchanged : Prop :=
  ∀ (s : State) (h : Helper) (r : Response), s.ready = true → s.helper = some h → s.rsp.getLast? = some r →
    r.status ≠ .ok →
    exec (h.op.instr h.reg h.bit) s =
      .next { s with helper := none, results := s.results ++ [{ status := r.status }] }

/-- What SET_BIT, CLEAR_BIT and GET_BIT compute, bit by bit: the named bit is set, cleared or returned, and every other bit
of the value is kept (R127, R128, R129). -/
def Obligations.BitOperationsActOnOneBit : Prop :=
  ∀ (v : Byte) (bit : Word) (j : Nat), bit.toNat ≤ 7 → j < 8 →
    (setBitOf v bit).getLsbD j = (if j = bit.toNat then true else v.getLsbD j) ∧
    (clearBitOf v bit).getLsbD j = (if j = bit.toNat then false else v.getLsbD j) ∧
    getBitOf v bit = (if v.getLsbD bit.toNat then 1 else 0)

/-- A whole SET_BIT, from the host's line to its result, six steps: the link sees Flush, the read frame, one Read, Flush, and
the write frame with the bit set in the value read; the SCE answers two requests (R127, R131; the step count is that of log 7 and log 8). -/
def Obligations.SetBitRunsReadThenWrite : Prop :=
  ∀ (s : State) (reg bit : Word) (v : Byte) (a b d e : List Byte) (rest : List LinkAnswer) (lines : List HostLine),
    s.ready = true → s.helper = none → s.signals = [] → s.sess = true → reg.toNat ≤ 0xFF → bit.toNat ≤ 7 →
    s.hostReq = .pseudo .set reg bit :: lines →
    s.link = .done a :: .done b :: .done [v] :: .done d :: .done e :: rest →
    Host.Core.run Sys2Proof.core 6 s = .next { s with
      hostReq := lines, link := rest, cur := none, txf := none,
      hist := s.hist ++ [.flush .ok, .write [0xBB, lowByte reg] .ok, .read 1 (.chunk [v]), .flush .ok,
        .write [0xAA, lowByte reg, v ||| (1#8 <<< bit.toNat)] .ok],
      rsp := s.rsp ++ [{ status := .ok, value := some v }, { status := .ok }],
      results := s.results ++ [{ status := .ok }] }

/-! ## TEARDOWN, faults and reset -/

/-- TEARDOWN, with no fault. At a step boundary: an operation in flight is answered ABORTED without its result, the working
state is cleared, an open link is closed, and nothing else happens. While a link primitive of a command is in progress: the
primitive completes and its event stands with its answer; that answer is discarded, the operation is answered ABORTED in its
place, and the rest is the same. The second clause is for the flush, the write and the Reads of an operation in flight, the
third for the flush of a command accepted in this step, the last two for the flush of the REG_READ and of the REG_WRITE that a
pseudo-operation issues (R93). A Read of the second clause keeps its contract: an over-long chunk is LINK_CONTRACT with a pulse
too (`OverlongChunkIsALinkContractFault`; R87). The model's choices: the pulse is an entry of the tape `signals`, and the Close
shares the step of the primitive during which the pulse arrives (both log 9); the response and the Close are one step (log 26);
the host's record `helper`, and its request accepted in the step in which it reacts, are log 7. -/
def Obligations.TeardownAbortsAndCloses : Prop :=
  ∀ s : State, s.fault = none →
    (s.signal = .teardown → step s = .next { s with
      signals := s.signals.tail,
      rsp := if s.cur = none then s.rsp else s.rsp ++ [{ status := .aborted }],
      len := 0, buf := [], txf := none, cur := none, fsm := .idle,
      hist := if s.sess = true then s.hist ++ [.closing] else s.hist,
      sess := false }) ∧
    (∀ (i : Instr) (f : List Byte) (e : LinkEvent), s.signal = .teardownInStep → s.cur = some i →
      encodeFrame i = some f →
      (s.fsm = .flush ∧ e = .flush s.lineAnswer) ∨ (∃ g, s.fsm = .tx ∧ s.txf = some g ∧ e = .write g s.lineAnswer) ∨
        (s.fsm = .resp ∧ (∃ reg, i = .regRead reg) ∧ (∀ c, s.readAnswer 1 = .chunk c → c.length ≤ 1) ∧
          e = .read 1 (s.readAnswer 1)) ∨
        (∃ size, s.fsm = .accum ∧ i = .capture ∧ s.sess = true ∧ s.byteSize = some size ∧ s.len.toNat < size ∧
          (∀ c, s.readAnswer (size - s.len.toNat) = .chunk c → c.length ≤ size - s.len.toNat) ∧
          e = .read (size - s.len.toNat) (s.readAnswer (size - s.len.toNat))) →
      step s = .next { s.takeAnswer with
        signals := s.signals.tail,
        rsp := s.rsp ++ [{ status := .aborted }],
        len := 0, buf := [], txf := none, cur := none, fsm := .idle,
        hist := s.hist ++ [e] ++ (if s.sess = true then [.closing] else []),
        sess := false }) ∧
    (∀ (line : HostLine) (rest : List HostLine) (i : Instr) (f : List Byte), s.signal = .teardownInStep →
      s.fsm = .idle → s.helper = none → s.hostReq = line :: rest → decodeLine line = .ok i → encodeFrame i = some f →
      i.wf = true → s.sess = true →
      step s = .next { s.takeAnswer with
        signals := s.signals.tail, hostReq := rest,
        rsp := s.rsp ++ [{ status := .aborted }],
        len := 0, buf := [], txf := none, cur := none, fsm := .idle,
        hist := s.hist ++ [.flush s.lineAnswer, .closing],
        sess := false }) ∧
    (∀ (line : HostLine) (rest : List HostLine) (op : HelperOp) (reg bit : Word), s.signal = .teardownInStep →
      s.fsm = .idle → s.helper = none → s.hostReq = line :: rest → decodeLine line = .ok (op.instr reg bit) →
      reg.toNat ≤ 0xFF → bit.toNat ≤ 7 → s.sess = true →
      step s = .next { s.takeAnswer with
        signals := s.signals.tail, hostReq := rest,
        helper := some { op := op, reg := reg, bit := bit, phase := .awaitRead },
        rsp := s.rsp ++ [{ status := .aborted }],
        len := 0, buf := [], txf := none, cur := none, fsm := .idle,
        hist := s.hist ++ [.flush s.lineAnswer, .closing],
        sess := false }) ∧
    (∀ (op : HelperOp) (reg bit : Word) (v : Byte), s.signal = .teardownInStep → s.fsm = .idle → op ≠ .get →
      s.helper = some { op := op, reg := reg, bit := bit, phase := .awaitRead } →
      s.rsp.getLast? = some { status := .ok, value := some v } → reg.toNat ≤ 0xFF → s.sess = true →
      step s = .next { s.takeAnswer with
        signals := s.signals.tail,
        helper := some { op := op, reg := reg, bit := bit, phase := .awaitWrite },
        rsp := s.rsp ++ [{ status := .aborted }],
        len := 0, buf := [], txf := none, cur := none, fsm := .idle,
        hist := s.hist ++ [.flush s.lineAnswer, .closing],
        sess := false })

/-- With FAULT set the SCE takes no further step and READY is false, until a reset; a reset clears FAULT (R38; the
outcome `fault` of such a step is log 12). -/
def Obligations.FaultIsStickyUntilReset : Prop :=
  ∀ (s : State) (f : Fault), s.fault = some f →
    s.ready = false ∧ (s.signal ≠ .reset → step s = .fault f) ∧
      (s.signal = .reset → ∃ t, step s = .next t ∧ t.fault = none)

/-- FSM holding 6 or 7 is the fault UNREACHABLE_FSM, and so is a CAPTURE in its loop with no session or with WIDTH or HEIGHT
unwritten; nothing else of the SCE changes, and no response is sent (R24, R38, R42; that the fault is this step's next state
is log 12). -/
def Obligations.ReservedFsmIsUnreachable : Prop :=
  ∀ s : State, s.fault = none → s.signal = .quiet →
    (s.fsm = .reserved6 ∨ s.fsm = .reserved7 →
      step s = .next { s with signals := s.signals.tail, fault := some .unreachableFsm }) ∧
    (s.fsm = .accum → s.cur = some .capture → s.sess = false ∨ s.width = none ∨ s.height = none →
      step s = .next { s with signals := s.signals.tail, fault := some .unreachableFsm })

/-- The reset values of all SCE state (R41). -/
def Obligations.ResetValues : Prop :=
  State.reset.sess = false ∧ State.reset.fsm.code = 0 ∧ State.reset.width = none ∧ State.reset.height = none ∧
  State.reset.byteSize = none ∧ State.reset.baud = none ∧ State.reset.tRead = none ∧ State.reset.len = 0 ∧
  (∀ a, Memory.read State.reset.buf a = none) ∧ State.reset.cur = none ∧ State.reset.txf = none ∧
  State.reset.fault = none ∧ State.reset.hist = []

/-- After reset the SCE is READY, and every operation of the SCE but OPEN and CLOSE is rejected without a link event (R152). -/
def Obligations.ResetStateIsReady : Prop :=
  State.reset.ready = true ∧
    ∀ i f, encodeFrame i = some f → i.wf = true →
      ∃ t, exec i State.reset = .next t ∧ t.rsp = [{ status := .invalidState }] ∧ t.hist = []

/-- A reset that arrives in a run puts every register of the SCE at its reset value, with a session open or not, and performs
no link event: HIST is empty and the link answers nothing (R151; what it leaves of the host is log 10). -/
def Obligations.ResetForgetsTheSession : Prop :=
  ∀ s : State, s.signal = .reset →
    step s = .next { State.reset with
      params := s.params, hostReq := s.hostReq, signals := s.signals.tail, link := s.link, freeCount := s.freeCount,
      rsp := s.rsp, results := s.results, pixOut := s.pixOut }

/-! ## Invariants and whole-machine rules -/

/-- The reset state meets the invariant, and its link history is framed and balanced. -/
def Obligations.ResetMeetsTheInvariants : Prop :=
  Coherent State.reset ∧ HistoryFramed State.reset ∧ SessionsBalanced State.reset

/-- Every step from a state that meets the invariant leads to one that does: BUF canonical and written exactly below LEN, LEN
below BYTE_SIZE in the loop, the latches consistent with FSM, no FSM value but IDLE, TX, RESP and ACCUM between steps, an open
session's FrameSpec supported, responses with only the fields of their status, and UNREACHABLE_FSM never raised (R24, R32,
R33, R34, R35, R42, R138; FSM = FLUSH never seen is log 8, the host's part log 7). -/
def Obligations.StepKeepsTheInvariant : Prop :=
  ∀ s t : State, Coherent s → step s = .next t → Coherent t

/-- Every Write of HIST comes right after a Flush answered Ok and carries exactly one command frame, and every step keeps that
(R77, R98). -/
def Obligations.StepKeepsEveryWriteFramed : Prop :=
  ∀ s t : State, Coherent s → HistoryFramed s → step s = .next t → HistoryFramed t

/-- Every session has exactly one Close event, but for the one now open: the link is never closed twice (R88, R92). -/
def Obligations.StepKeepsSessionsBalanced : Prop :=
  ∀ s t : State, SessionsBalanced s → step s = .next t → SessionsBalanced t

/-- Whether there is a step never depends on the link agent's answer: from every state with no fault, if the next host line
(where there is one) is an operation, the step has a next state (R22). -/
def Obligations.EveryLinkAnswerLeadsToANextState : Prop :=
  ∀ s : State, s.fault = none →
    (∀ line rest, s.hostReq = line :: rest → ∃ i, decodeLine line = .ok i) → ∃ t, step s = .next t

/-- The FrameSpec is immutable within a session: no step but a reset changes WIDTH, HEIGHT, BAUD or T_READ while SESS = 1, and
an OPEN then is rejected with no link event (R44). -/
def Obligations.FrameSpecIsImmutableInASession : Prop :=
  ∀ s : State, s.sess = true →
    (∀ t, s.signal ≠ .reset → step s = .next t →
      t.width = s.width ∧ t.height = s.height ∧ t.baud = s.baud ∧ t.tRead = s.tRead) ∧
    (s.ready = true → ∀ w h baud timeout, ∃ r, (r = .invalidArgument ∨ r = .invalidState) ∧
      exec (.openSession w h baud timeout) s =
        .next { s with rsp := s.rsp ++ [{ status := r }], cur := none, txf := none })

/-- HIST only grows, at its end, by at most two events a step, of which the second is a Close: one primitive, and the Close of
a cleanup or of a TEARDOWN (R14, R40, R59, R83; that the two share a step is log 9 and log 26). The responses sent stay too.
That the parameters never change is the model's choice (log 3). -/
def Obligations.HistoryOnlyGrows : Prop :=
  ∀ s t : State, s.signal ≠ .reset → step s = .next t →
    (∃ es, t.hist = s.hist ++ es ∧ es.length ≤ 2 ∧ (es.length = 2 → es.getLast? = some .closing)) ∧
    (∃ rs, t.rsp = s.rsp ++ rs ∧ rs.length ≤ 1) ∧ t.params = s.params

/-- BAUD and T_READ decide nothing: two states that differ in these registers only have steps that differ in them only
(R30, R31). -/
def Obligations.RatesDecideNothing : Prop :=
  ∀ s u : State, forgetRates s = forgetRates u → forgetRatesOf (step s) = forgetRatesOf (step u)

/-- Every accepted request receives exactly one response: a step of an operation in flight either leaves it in flight and
sends nothing, or ends it and sends one response (R138). -/
def Obligations.OneResponsePerRequest : Prop :=
  ∀ (s t : State) (i : Instr), Coherent s → s.cur = some i → s.signal ≠ .reset → step s = .next t →
    (t.cur = some i ∧ t.rsp = s.rsp) ∨ (t.cur = none ∧ t.fsm = .idle ∧ ∃ r, t.rsp = s.rsp ++ [r])

/-- An operation that ends, in an error or not, leaves the working state as at the start, and an error returns no value and no
image (R139). -/
def Obligations.EndedOperationLeavesNoWorkingState : Prop :=
  ∀ (s t : State) (r : Response), Coherent s → step s = .next t → t.rsp = s.rsp ++ [r] →
    workCleared t = true ∧ (r.status ≠ .ok → r.value = none ∧ r.image = none)

/-- The statuses each operation can end with (R136; ABORTED comes from TEARDOWN only). -/
def Obligations.OperationsEndWithTheirStatuses : Prop :=
  ∀ (i : Instr) (allowed : List Status) (s t : State) (r : Response), operationStatuses i = some allowed →
    exec i s = .next t → t.rsp = s.rsp ++ [r] → r.status ∈ allowed ∧ r.status ≠ .aborted
end

