-- ==== Sys2Proof/Laws/Frames.lean ====
section
/-! SUPPORT. Laws of the frame encoders and decoders. -/

namespace Sys2Proof

/-- An operand in range is not truncated into its frame byte (R73). -/
theorem zext_lowByte {w : Word} (h : Machine.inRange8 w = true) : zextWord (lowByte w) = w := by
  have h : w.toNat ≤ 255 := by simpa [Machine.inRange8] using h
  apply BitVec.eq_of_toNat_eq
  simp [zextWord, lowByte]
  omega

theorem lowByte_zext (b : Byte) : lowByte (zextWord b) = b := by
  apply BitVec.eq_of_toNat_eq
  have := b.isLt
  simp [zextWord, lowByte]

/-- A byte's operand is in range (R95). -/
theorem inRange8_zext (b : Byte) : Machine.inRange8 (zextWord b) = true := by
  have := b.isLt
  simp [Machine.inRange8, zextWord, BitVec.toNat_setWidth]
  omega

end Sys2Proof
end

