-- ==== Sys2Proof/Laws/Memory.lean ====
section
/-! SUPPORT. The laws of BUF: reading after writing, and the canonical form kept by every memory operation. -/

namespace Sys2Proof.Machine

@[simp] theorem read_nil (a : Nat) : Memory.read [] a = none := rfl

@[simp] theorem read_cons (k : Nat) (b : Byte) (m : Memory) (a : Nat) :
    Memory.read ((k, b) :: m) a = if k = a then some b else Memory.read m a := rfl

theorem read_append (m n : Memory) (a : Nat) :
    Memory.read (m ++ n) a = (Memory.read m a).or (Memory.read n a) := by
  induction m with
  | nil => simp
  | cons x m ih =>
    obtain ⟨k, b⟩ := x
    by_cases h : k = a <;> simp [h, ih]

/-- Reading where a kept offset stands gives what it gave; elsewhere nothing. -/
theorem read_filter (p : Nat → Bool) (m : Memory) (a : Nat) :
    Memory.read (m.filter fun x => p x.1) a = if p a = true then Memory.read m a else none := by
  induction m with
  | nil => simp
  | cons x m ih =>
    obtain ⟨k, b⟩ := x
    by_cases hk : p k = true <;> by_cases hka : k = a <;> simp_all

theorem read_layout (base : Nat) (c : List Byte) (a : Nat) :
    Memory.read (Memory.layout base c) a = if base ≤ a then (c)[a - base]? else none := by
  induction c generalizing base with
  | nil => simp [Memory.layout]
  | cons b c ih =>
    rcases Nat.lt_trichotomy base a with h | h | h
    · have h1 : a - base = (a - (base + 1)) + 1 := by omega
      simp [Memory.layout, ih, Nat.ne_of_lt h, h1, Nat.le_of_lt h, Nat.succ_le_of_lt h]
    · simp [Memory.layout, h]
    · simp [Memory.layout, ih, Nat.ne_of_gt h, Nat.not_le_of_gt h, show ¬ base + 1 ≤ a by omega]

/-- Reading after a chunk is written: the chunk's byte inside it, what was there before outside it (R108). -/
theorem read_write (m : Memory) (base : Nat) (c : List Byte) (a : Nat) :
    Memory.read (Memory.write m base c) a =
      if base ≤ a ∧ a < base + c.length then (c)[a - base]? else Memory.read m a := by
  have hlow := read_filter (fun k => decide (k < base)) m a
  have hhigh := read_filter (fun k => decide (base + c.length ≤ k)) m a
  simp only [Memory.write, read_append, hlow, hhigh, read_layout, decide_eq_true_eq]
  by_cases h1 : a < base
  · simp [h1, Nat.not_le_of_gt h1, show ¬ base + c.length ≤ a by omega]
  · by_cases h2 : a < base + c.length
    · have h3 : a - base < c.length := by omega
      simp [h1, h2, Nat.le_of_not_gt h1, h3]
    · have h3 : c.length ≤ a - base := by omega
      simp [h1, h2, Nat.le_of_not_gt h1, Nat.le_of_not_gt h2, h3]

theorem mem_layout {base : Nat} {c : List Byte} {x : Host.Cell} (h : x ∈ Memory.layout base c) :
    base ≤ x.1 ∧ x.1 < base + c.length := by
  induction c generalizing base with
  | nil => simp [Memory.layout] at h
  | cons b c ih =>
    rcases List.mem_cons.mp h with rfl | h
    · simp
    · have := ih h
      simp only [List.length_cons]
      omega

theorem layout_wf (base : Nat) (c : List Byte) : Memory.wf (Memory.layout base c) := by
  induction c generalizing base with
  | nil => exact List.Pairwise.nil
  | cons b c ih => exact List.Pairwise.cons (fun x hx => (mem_layout hx).1) (ih (base + 1))

/-- Writing keeps the canonical form. -/
theorem write_wf {m : Memory} (h : Memory.wf m) (base : Nat) (c : List Byte) : Memory.wf (Memory.write m base c) := by
  unfold Memory.write
  rw [Memory.wf, List.pairwise_append, List.pairwise_append]
  refine ⟨⟨h.filter _, layout_wf base c, ?_⟩, h.filter _, ?_⟩
  · intro x hx y hy
    have := of_decide_eq_true (List.mem_filter.mp hx).2
    have := (mem_layout hy).1
    omega
  · intro x hx y hy
    have hy' := of_decide_eq_true (List.mem_filter.mp hy).2
    rcases List.mem_append.mp hx with hx | hx
    · have := of_decide_eq_true (List.mem_filter.mp hx).2
      omega
    · have := (mem_layout hx).2
      omega

/-- The empty BUF is canonical, so the reset state's is. -/
theorem wf_nil : Memory.wf [] := List.Pairwise.nil

theorem reset_buf_wf : Memory.wf State.reset.buf := wf_nil

/-- A canonical memory is determined by what its bytes read as. -/
theorem eq_of_read_eq {m n : Memory} (hm : Memory.wf m) (hn : Memory.wf n)
    (h : ∀ a, Memory.read m a = Memory.read n a) : m = n := by
  induction m generalizing n with
  | nil =>
    cases n with
    | nil => rfl
    | cons y n => have := h y.1; rw [show y = (y.1, y.2) from rfl, read_cons, if_pos rfl] at this; cases this
  | cons x m ih =>
    obtain ⟨k, b⟩ := x
    cases n with
    | nil => have := h k; simp at this
    | cons y n =>
      obtain ⟨k', b'⟩ := y
      have hmk := (List.pairwise_cons.mp hm).1
      have hnk := (List.pairwise_cons.mp hn).1
      have low : ∀ {l : Memory} {k a : Nat}, (∀ x ∈ l, k < x.1) → a ≤ k → Memory.read l a = none := by
        intro l k a hl ha
        induction l with
        | nil => rfl
        | cons z l ihl =>
          have hz := hl z (List.mem_cons_self ..)
          rw [show z = (z.1, z.2) from rfl, read_cons, if_neg (by omega)]
          exact ihl fun x hx => hl x (List.mem_cons_of_mem _ hx)
      have hkk : k = k' := by
        rcases Nat.lt_trichotomy k k' with hlt | heq | hgt
        · have := h k
          rw [read_cons, if_pos rfl, read_cons, if_neg (by omega), low hnk (by omega)] at this
          cases this
        · exact heq
        · have := h k'
          rw [read_cons, if_neg (by omega), low hmk (by omega), read_cons, if_pos rfl] at this
          cases this
      subst hkk
      have hb : b = b' := by have := h k; simpa using this
      subst hb
      congr 1
      refine ih (List.pairwise_cons.mp hm).2 (List.pairwise_cons.mp hn).2 fun a => ?_
      by_cases ha : k = a
      · subst ha; rw [low hmk (Nat.le_refl _), low hnk (Nat.le_refl _)]
      · have := h a
        simpa [ha] using this

/-- `MemRead(a, 2)` of two written bytes (R51). -/
theorem read16_of_read {m : Memory} {a : Nat} {lo hi : Byte} (h0 : Memory.read m a = some lo)
    (h1 : Memory.read m (a + 1) = some hi) : Memory.read16 m a = some (sampleOf lo hi) := by
  simp [Memory.read16, h0, h1]

/-- Appending after a layout lays out the concatenation (R60). -/
theorem write_layout (d c : List Byte) : Memory.write (Memory.layout 0 d) d.length c = Memory.layout 0 (d ++ c) := by
  refine eq_of_read_eq (write_wf (layout_wf 0 d) _ _) (layout_wf 0 _) (fun a => ?_)
  rw [read_write, read_layout, read_layout]
  simp only [Nat.zero_le, if_true, Nat.sub_zero]
  split
  · rw [List.getElem?_append_right (by omega)]
  · by_cases h1 : a < d.length
    · rw [List.getElem?_append_left h1]
    · rw [List.getElem?_eq_none (by omega), List.getElem?_eq_none (by simp; omega)]

/-- A supported FrameSpec's frame fits the capacity of BUF (R33). -/
theorem byteSize_le_bufCapacity {p : Params} {w h : Word} (hs : supported p w h = true) :
    byteSizeOf w h ≤ bufCapacity p := by
  have le_foldl : ∀ (l : List Nat) (a : Nat), a ≤ l.foldl max a ∧ ∀ x ∈ l, x ≤ l.foldl max a := by
    intro l
    induction l with
    | nil => intro a; exact ⟨Nat.le_refl a, fun _ hx => by cases hx⟩
    | cons y l ih =>
      intro a
      obtain ⟨h1, h2⟩ := ih (max a y)
      refine ⟨by simp only [List.foldl_cons]; omega, fun x hx => ?_⟩
      rcases List.mem_cons.mp hx with rfl | hx
      · simp only [List.foldl_cons]; omega
      · exact h2 x hx
  simp only [supported, Bool.and_eq_true, decide_eq_true_eq] at hs
  exact (le_foldl _ 0).2 _ (List.mem_map.mpr ⟨(w, h), hs.2, rfl⟩)

end Sys2Proof.Machine
end

