-- ==== Sys2Proof/Laws/State.lean ====
section
/-! SUPPORT. The small lemmas of the state updates: for each update, what each field of the new state is. -/

namespace Sys2Proof.Machine

/-! `State.record` -/

section

variable (s : State) (e : LinkEvent)

@[simp] theorem record_sess : (s.record e).sess = s.sess := rfl
@[simp] theorem record_fsm : (s.record e).fsm = s.fsm := rfl
@[simp] theorem record_width : (s.record e).width = s.width := rfl
@[simp] theorem record_height : (s.record e).height = s.height := rfl
@[simp] theorem record_baud : (s.record e).baud = s.baud := rfl
@[simp] theorem record_tRead : (s.record e).tRead = s.tRead := rfl
@[simp] theorem record_len : (s.record e).len = s.len := rfl
@[simp] theorem record_buf : (s.record e).buf = s.buf := rfl
@[simp] theorem record_cur : (s.record e).cur = s.cur := rfl
@[simp] theorem record_txf : (s.record e).txf = s.txf := rfl
@[simp] theorem record_fault : (s.record e).fault = s.fault := rfl
@[simp] theorem record_hist : (s.record e).hist = s.hist ++ [e] := rfl
@[simp] theorem record_params : (s.record e).params = s.params := rfl
@[simp] theorem record_hostReq : (s.record e).hostReq = s.hostReq := rfl
@[simp] theorem record_signals : (s.record e).signals = s.signals := rfl
@[simp] theorem record_link : (s.record e).link = s.link := rfl
@[simp] theorem record_freeCount : (s.record e).freeCount = s.freeCount := rfl
@[simp] theorem record_rsp : (s.record e).rsp = s.rsp := rfl
@[simp] theorem record_helper : (s.record e).helper = s.helper := rfl
@[simp] theorem record_results : (s.record e).results = s.results := rfl
@[simp] theorem record_pixOut : (s.record e).pixOut = s.pixOut := rfl

end

/-! `respond` -/

section

variable (s : State) (r : Response)

@[simp] theorem respond_sess : (respond r s).sess = s.sess := rfl
@[simp] theorem respond_fsm : (respond r s).fsm = .idle := rfl
@[simp] theorem respond_width : (respond r s).width = s.width := rfl
@[simp] theorem respond_height : (respond r s).height = s.height := rfl
@[simp] theorem respond_baud : (respond r s).baud = s.baud := rfl
@[simp] theorem respond_tRead : (respond r s).tRead = s.tRead := rfl
@[simp] theorem respond_len : (respond r s).len = s.len := rfl
@[simp] theorem respond_buf : (respond r s).buf = s.buf := rfl
@[simp] theorem respond_cur : (respond r s).cur = none := rfl
@[simp] theorem respond_txf : (respond r s).txf = none := rfl
@[simp] theorem respond_fault : (respond r s).fault = s.fault := rfl
@[simp] theorem respond_hist : (respond r s).hist = s.hist := rfl
@[simp] theorem respond_params : (respond r s).params = s.params := rfl
@[simp] theorem respond_hostReq : (respond r s).hostReq = s.hostReq := rfl
@[simp] theorem respond_signals : (respond r s).signals = s.signals := rfl
@[simp] theorem respond_link : (respond r s).link = s.link := rfl
@[simp] theorem respond_freeCount : (respond r s).freeCount = s.freeCount := rfl
@[simp] theorem respond_rsp : (respond r s).rsp = s.rsp ++ [r] := rfl
@[simp] theorem respond_helper : (respond r s).helper = s.helper := rfl
@[simp] theorem respond_results : (respond r s).results = s.results := rfl
@[simp] theorem respond_pixOut : (respond r s).pixOut = s.pixOut := rfl

end

/-! `clearWork` -/

section

variable (s : State)

@[simp] theorem clearWork_sess : (clearWork s).sess = s.sess := rfl
@[simp] theorem clearWork_fsm : (clearWork s).fsm = s.fsm := rfl
@[simp] theorem clearWork_width : (clearWork s).width = s.width := rfl
@[simp] theorem clearWork_height : (clearWork s).height = s.height := rfl
@[simp] theorem clearWork_baud : (clearWork s).baud = s.baud := rfl
@[simp] theorem clearWork_tRead : (clearWork s).tRead = s.tRead := rfl
@[simp] theorem clearWork_len : (clearWork s).len = 0 := rfl
@[simp] theorem clearWork_buf : (clearWork s).buf = [] := rfl
@[simp] theorem clearWork_cur : (clearWork s).cur = s.cur := rfl
@[simp] theorem clearWork_txf : (clearWork s).txf = none := rfl
@[simp] theorem clearWork_fault : (clearWork s).fault = s.fault := rfl
@[simp] theorem clearWork_hist : (clearWork s).hist = s.hist := rfl
@[simp] theorem clearWork_params : (clearWork s).params = s.params := rfl
@[simp] theorem clearWork_hostReq : (clearWork s).hostReq = s.hostReq := rfl
@[simp] theorem clearWork_signals : (clearWork s).signals = s.signals := rfl
@[simp] theorem clearWork_link : (clearWork s).link = s.link := rfl
@[simp] theorem clearWork_freeCount : (clearWork s).freeCount = s.freeCount := rfl
@[simp] theorem clearWork_rsp : (clearWork s).rsp = s.rsp := rfl
@[simp] theorem clearWork_helper : (clearWork s).helper = s.helper := rfl
@[simp] theorem clearWork_results : (clearWork s).results = s.results := rfl
@[simp] theorem clearWork_pixOut : (clearWork s).pixOut = s.pixOut := rfl

end

/-! `raiseFault` -/

section

variable (s : State) (f : Fault)

@[simp] theorem raiseFault_sess : (raiseFault f s).sess = s.sess := rfl
@[simp] theorem raiseFault_fsm : (raiseFault f s).fsm = s.fsm := rfl
@[simp] theorem raiseFault_width : (raiseFault f s).width = s.width := rfl
@[simp] theorem raiseFault_height : (raiseFault f s).height = s.height := rfl
@[simp] theorem raiseFault_baud : (raiseFault f s).baud = s.baud := rfl
@[simp] theorem raiseFault_tRead : (raiseFault f s).tRead = s.tRead := rfl
@[simp] theorem raiseFault_len : (raiseFault f s).len = s.len := rfl
@[simp] theorem raiseFault_buf : (raiseFault f s).buf = s.buf := rfl
@[simp] theorem raiseFault_cur : (raiseFault f s).cur = s.cur := rfl
@[simp] theorem raiseFault_txf : (raiseFault f s).txf = s.txf := rfl
@[simp] theorem raiseFault_fault : (raiseFault f s).fault = some f := rfl
@[simp] theorem raiseFault_hist : (raiseFault f s).hist = s.hist := rfl
@[simp] theorem raiseFault_params : (raiseFault f s).params = s.params := rfl
@[simp] theorem raiseFault_hostReq : (raiseFault f s).hostReq = s.hostReq := rfl
@[simp] theorem raiseFault_signals : (raiseFault f s).signals = s.signals := rfl
@[simp] theorem raiseFault_link : (raiseFault f s).link = s.link := rfl
@[simp] theorem raiseFault_freeCount : (raiseFault f s).freeCount = s.freeCount := rfl
@[simp] theorem raiseFault_rsp : (raiseFault f s).rsp = s.rsp := rfl
@[simp] theorem raiseFault_helper : (raiseFault f s).helper = s.helper := rfl
@[simp] theorem raiseFault_results : (raiseFault f s).results = s.results := rfl
@[simp] theorem raiseFault_pixOut : (raiseFault f s).pixOut = s.pixOut := rfl

end

/-! `State.passSignal` -/

section

variable (s : State)

@[simp] theorem passSignal_sess : (s.passSignal).sess = s.sess := rfl
@[simp] theorem passSignal_fsm : (s.passSignal).fsm = s.fsm := rfl
@[simp] theorem passSignal_width : (s.passSignal).width = s.width := rfl
@[simp] theorem passSignal_height : (s.passSignal).height = s.height := rfl
@[simp] theorem passSignal_baud : (s.passSignal).baud = s.baud := rfl
@[simp] theorem passSignal_tRead : (s.passSignal).tRead = s.tRead := rfl
@[simp] theorem passSignal_len : (s.passSignal).len = s.len := rfl
@[simp] theorem passSignal_buf : (s.passSignal).buf = s.buf := rfl
@[simp] theorem passSignal_cur : (s.passSignal).cur = s.cur := rfl
@[simp] theorem passSignal_txf : (s.passSignal).txf = s.txf := rfl
@[simp] theorem passSignal_fault : (s.passSignal).fault = s.fault := rfl
@[simp] theorem passSignal_hist : (s.passSignal).hist = s.hist := rfl
@[simp] theorem passSignal_params : (s.passSignal).params = s.params := rfl
@[simp] theorem passSignal_hostReq : (s.passSignal).hostReq = s.hostReq := rfl
@[simp] theorem passSignal_signals : (s.passSignal).signals = s.signals.tail := rfl
@[simp] theorem passSignal_link : (s.passSignal).link = s.link := rfl
@[simp] theorem passSignal_freeCount : (s.passSignal).freeCount = s.freeCount := rfl
@[simp] theorem passSignal_rsp : (s.passSignal).rsp = s.rsp := rfl
@[simp] theorem passSignal_helper : (s.passSignal).helper = s.helper := rfl
@[simp] theorem passSignal_results : (s.passSignal).results = s.results := rfl
@[simp] theorem passSignal_pixOut : (s.passSignal).pixOut = s.pixOut := rfl

end

/-! `latchSession` -/

section

variable (s : State) (w h b t : Word)

@[simp] theorem latchSession_sess : (latchSession w h b t s).sess = true := rfl
@[simp] theorem latchSession_fsm : (latchSession w h b t s).fsm = s.fsm := rfl
@[simp] theorem latchSession_width : (latchSession w h b t s).width = some w := rfl
@[simp] theorem latchSession_height : (latchSession w h b t s).height = some h := rfl
@[simp] theorem latchSession_baud : (latchSession w h b t s).baud = some b := rfl
@[simp] theorem latchSession_tRead : (latchSession w h b t s).tRead = some t := rfl
@[simp] theorem latchSession_len : (latchSession w h b t s).len = s.len := rfl
@[simp] theorem latchSession_buf : (latchSession w h b t s).buf = s.buf := rfl
@[simp] theorem latchSession_cur : (latchSession w h b t s).cur = s.cur := rfl
@[simp] theorem latchSession_txf : (latchSession w h b t s).txf = s.txf := rfl
@[simp] theorem latchSession_fault : (latchSession w h b t s).fault = s.fault := rfl
@[simp] theorem latchSession_hist : (latchSession w h b t s).hist = s.hist := rfl
@[simp] theorem latchSession_params : (latchSession w h b t s).params = s.params := rfl
@[simp] theorem latchSession_hostReq : (latchSession w h b t s).hostReq = s.hostReq := rfl
@[simp] theorem latchSession_signals : (latchSession w h b t s).signals = s.signals := rfl
@[simp] theorem latchSession_link : (latchSession w h b t s).link = s.link := rfl
@[simp] theorem latchSession_freeCount : (latchSession w h b t s).freeCount = s.freeCount := rfl
@[simp] theorem latchSession_rsp : (latchSession w h b t s).rsp = s.rsp := rfl
@[simp] theorem latchSession_helper : (latchSession w h b t s).helper = s.helper := rfl
@[simp] theorem latchSession_results : (latchSession w h b t s).results = s.results := rfl
@[simp] theorem latchSession_pixOut : (latchSession w h b t s).pixOut = s.pixOut := rfl

end

/-! `regReadSent` -/

section

variable (s : State)

@[simp] theorem regReadSent_sess : (regReadSent s).sess = s.sess := rfl
@[simp] theorem regReadSent_fsm : (regReadSent s).fsm = .resp := rfl
@[simp] theorem regReadSent_width : (regReadSent s).width = s.width := rfl
@[simp] theorem regReadSent_height : (regReadSent s).height = s.height := rfl
@[simp] theorem regReadSent_baud : (regReadSent s).baud = s.baud := rfl
@[simp] theorem regReadSent_tRead : (regReadSent s).tRead = s.tRead := rfl
@[simp] theorem regReadSent_len : (regReadSent s).len = s.len := rfl
@[simp] theorem regReadSent_buf : (regReadSent s).buf = s.buf := rfl
@[simp] theorem regReadSent_cur : (regReadSent s).cur = s.cur := rfl
@[simp] theorem regReadSent_txf : (regReadSent s).txf = s.txf := rfl
@[simp] theorem regReadSent_fault : (regReadSent s).fault = s.fault := rfl
@[simp] theorem regReadSent_hist : (regReadSent s).hist = s.hist := rfl
@[simp] theorem regReadSent_params : (regReadSent s).params = s.params := rfl
@[simp] theorem regReadSent_hostReq : (regReadSent s).hostReq = s.hostReq := rfl
@[simp] theorem regReadSent_signals : (regReadSent s).signals = s.signals := rfl
@[simp] theorem regReadSent_link : (regReadSent s).link = s.link := rfl
@[simp] theorem regReadSent_freeCount : (regReadSent s).freeCount = s.freeCount := rfl
@[simp] theorem regReadSent_rsp : (regReadSent s).rsp = s.rsp := rfl
@[simp] theorem regReadSent_helper : (regReadSent s).helper = s.helper := rfl
@[simp] theorem regReadSent_results : (regReadSent s).results = s.results := rfl
@[simp] theorem regReadSent_pixOut : (regReadSent s).pixOut = s.pixOut := rfl

end

/-! `captureSent` -/

section

variable (s : State)

@[simp] theorem captureSent_sess : (captureSent s).sess = s.sess := rfl
@[simp] theorem captureSent_fsm : (captureSent s).fsm = .accum := rfl
@[simp] theorem captureSent_width : (captureSent s).width = s.width := rfl
@[simp] theorem captureSent_height : (captureSent s).height = s.height := rfl
@[simp] theorem captureSent_baud : (captureSent s).baud = s.baud := rfl
@[simp] theorem captureSent_tRead : (captureSent s).tRead = s.tRead := rfl
@[simp] theorem captureSent_len : (captureSent s).len = 0 := rfl
@[simp] theorem captureSent_buf : (captureSent s).buf = [] := rfl
@[simp] theorem captureSent_cur : (captureSent s).cur = s.cur := rfl
@[simp] theorem captureSent_txf : (captureSent s).txf = s.txf := rfl
@[simp] theorem captureSent_fault : (captureSent s).fault = s.fault := rfl
@[simp] theorem captureSent_hist : (captureSent s).hist = s.hist := rfl
@[simp] theorem captureSent_params : (captureSent s).params = s.params := rfl
@[simp] theorem captureSent_hostReq : (captureSent s).hostReq = s.hostReq := rfl
@[simp] theorem captureSent_signals : (captureSent s).signals = s.signals := rfl
@[simp] theorem captureSent_link : (captureSent s).link = s.link := rfl
@[simp] theorem captureSent_freeCount : (captureSent s).freeCount = s.freeCount := rfl
@[simp] theorem captureSent_rsp : (captureSent s).rsp = s.rsp := rfl
@[simp] theorem captureSent_helper : (captureSent s).helper = s.helper := rfl
@[simp] theorem captureSent_results : (captureSent s).results = s.results := rfl
@[simp] theorem captureSent_pixOut : (captureSent s).pixOut = s.pixOut := rfl

end

/-! `appendChunk` -/

section

variable (s : State) (c : List Byte)

@[simp] theorem appendChunk_sess : (appendChunk c s).sess = s.sess := rfl
@[simp] theorem appendChunk_fsm : (appendChunk c s).fsm = s.fsm := rfl
@[simp] theorem appendChunk_width : (appendChunk c s).width = s.width := rfl
@[simp] theorem appendChunk_height : (appendChunk c s).height = s.height := rfl
@[simp] theorem appendChunk_baud : (appendChunk c s).baud = s.baud := rfl
@[simp] theorem appendChunk_tRead : (appendChunk c s).tRead = s.tRead := rfl
@[simp] theorem appendChunk_len : (appendChunk c s).len = s.len + BitVec.ofNat 32 c.length := rfl
@[simp] theorem appendChunk_buf : (appendChunk c s).buf = Memory.write s.buf s.len.toNat c := rfl
@[simp] theorem appendChunk_cur : (appendChunk c s).cur = s.cur := rfl
@[simp] theorem appendChunk_txf : (appendChunk c s).txf = s.txf := rfl
@[simp] theorem appendChunk_fault : (appendChunk c s).fault = s.fault := rfl
@[simp] theorem appendChunk_hist : (appendChunk c s).hist = s.hist := rfl
@[simp] theorem appendChunk_params : (appendChunk c s).params = s.params := rfl
@[simp] theorem appendChunk_hostReq : (appendChunk c s).hostReq = s.hostReq := rfl
@[simp] theorem appendChunk_signals : (appendChunk c s).signals = s.signals := rfl
@[simp] theorem appendChunk_link : (appendChunk c s).link = s.link := rfl
@[simp] theorem appendChunk_freeCount : (appendChunk c s).freeCount = s.freeCount := rfl
@[simp] theorem appendChunk_rsp : (appendChunk c s).rsp = s.rsp := rfl
@[simp] theorem appendChunk_helper : (appendChunk c s).helper = s.helper := rfl
@[simp] theorem appendChunk_results : (appendChunk c s).results = s.results := rfl
@[simp] theorem appendChunk_pixOut : (appendChunk c s).pixOut = s.pixOut := rfl

end

/-! `finishHelper` -/

section

variable (s : State) (r : HelperResult)

@[simp] theorem finishHelper_sess : (finishHelper r s).sess = s.sess := rfl
@[simp] theorem finishHelper_fsm : (finishHelper r s).fsm = s.fsm := rfl
@[simp] theorem finishHelper_width : (finishHelper r s).width = s.width := rfl
@[simp] theorem finishHelper_height : (finishHelper r s).height = s.height := rfl
@[simp] theorem finishHelper_baud : (finishHelper r s).baud = s.baud := rfl
@[simp] theorem finishHelper_tRead : (finishHelper r s).tRead = s.tRead := rfl
@[simp] theorem finishHelper_len : (finishHelper r s).len = s.len := rfl
@[simp] theorem finishHelper_buf : (finishHelper r s).buf = s.buf := rfl
@[simp] theorem finishHelper_cur : (finishHelper r s).cur = s.cur := rfl
@[simp] theorem finishHelper_txf : (finishHelper r s).txf = s.txf := rfl
@[simp] theorem finishHelper_fault : (finishHelper r s).fault = s.fault := rfl
@[simp] theorem finishHelper_hist : (finishHelper r s).hist = s.hist := rfl
@[simp] theorem finishHelper_params : (finishHelper r s).params = s.params := rfl
@[simp] theorem finishHelper_hostReq : (finishHelper r s).hostReq = s.hostReq := rfl
@[simp] theorem finishHelper_signals : (finishHelper r s).signals = s.signals := rfl
@[simp] theorem finishHelper_link : (finishHelper r s).link = s.link := rfl
@[simp] theorem finishHelper_freeCount : (finishHelper r s).freeCount = s.freeCount := rfl
@[simp] theorem finishHelper_rsp : (finishHelper r s).rsp = s.rsp := rfl
@[simp] theorem finishHelper_helper : (finishHelper r s).helper = none := rfl
@[simp] theorem finishHelper_results : (finishHelper r s).results = s.results ++ [r] := rfl
@[simp] theorem finishHelper_pixOut : (finishHelper r s).pixOut = s.pixOut := rfl

end

/-! `resetSce` -/

section

variable (s : State)

@[simp] theorem resetSce_sess : (resetSce s).sess = false := rfl
@[simp] theorem resetSce_fsm : (resetSce s).fsm = .idle := rfl
@[simp] theorem resetSce_width : (resetSce s).width = none := rfl
@[simp] theorem resetSce_height : (resetSce s).height = none := rfl
@[simp] theorem resetSce_baud : (resetSce s).baud = none := rfl
@[simp] theorem resetSce_tRead : (resetSce s).tRead = none := rfl
@[simp] theorem resetSce_len : (resetSce s).len = 0 := rfl
@[simp] theorem resetSce_buf : (resetSce s).buf = [] := rfl
@[simp] theorem resetSce_cur : (resetSce s).cur = none := rfl
@[simp] theorem resetSce_txf : (resetSce s).txf = none := rfl
@[simp] theorem resetSce_fault : (resetSce s).fault = none := rfl
@[simp] theorem resetSce_hist : (resetSce s).hist = [] := rfl
@[simp] theorem resetSce_params : (resetSce s).params = s.params := rfl
@[simp] theorem resetSce_hostReq : (resetSce s).hostReq = s.hostReq := rfl
@[simp] theorem resetSce_signals : (resetSce s).signals = s.signals := rfl
@[simp] theorem resetSce_link : (resetSce s).link = s.link := rfl
@[simp] theorem resetSce_freeCount : (resetSce s).freeCount = s.freeCount := rfl
@[simp] theorem resetSce_rsp : (resetSce s).rsp = s.rsp := rfl
@[simp] theorem resetSce_helper : (resetSce s).helper = none := rfl
@[simp] theorem resetSce_results : (resetSce s).results = s.results := rfl
@[simp] theorem resetSce_pixOut : (resetSce s).pixOut = s.pixOut := rfl

end

/-! `State.takeAnswer`: only the script or the count of free answers changes -/

section

variable (s : State)

@[simp] theorem takeAnswer_sess : (s.takeAnswer).sess = s.sess := by unfold State.takeAnswer; split <;> rfl
@[simp] theorem takeAnswer_fsm : (s.takeAnswer).fsm = s.fsm := by unfold State.takeAnswer; split <;> rfl
@[simp] theorem takeAnswer_width : (s.takeAnswer).width = s.width := by unfold State.takeAnswer; split <;> rfl
@[simp] theorem takeAnswer_height : (s.takeAnswer).height = s.height := by unfold State.takeAnswer; split <;> rfl
@[simp] theorem takeAnswer_baud : (s.takeAnswer).baud = s.baud := by unfold State.takeAnswer; split <;> rfl
@[simp] theorem takeAnswer_tRead : (s.takeAnswer).tRead = s.tRead := by unfold State.takeAnswer; split <;> rfl
@[simp] theorem takeAnswer_len : (s.takeAnswer).len = s.len := by unfold State.takeAnswer; split <;> rfl
@[simp] theorem takeAnswer_buf : (s.takeAnswer).buf = s.buf := by unfold State.takeAnswer; split <;> rfl
@[simp] theorem takeAnswer_cur : (s.takeAnswer).cur = s.cur := by unfold State.takeAnswer; split <;> rfl
@[simp] theorem takeAnswer_txf : (s.takeAnswer).txf = s.txf := by unfold State.takeAnswer; split <;> rfl
@[simp] theorem takeAnswer_fault : (s.takeAnswer).fault = s.fault := by unfold State.takeAnswer; split <;> rfl
@[simp] theorem takeAnswer_hist : (s.takeAnswer).hist = s.hist := by unfold State.takeAnswer; split <;> rfl
@[simp] theorem takeAnswer_params : (s.takeAnswer).params = s.params := by unfold State.takeAnswer; split <;> rfl
@[simp] theorem takeAnswer_hostReq : (s.takeAnswer).hostReq = s.hostReq := by unfold State.takeAnswer; split <;> rfl
@[simp] theorem takeAnswer_signals : (s.takeAnswer).signals = s.signals := by unfold State.takeAnswer; split <;> rfl
@[simp] theorem takeAnswer_rsp : (s.takeAnswer).rsp = s.rsp := by unfold State.takeAnswer; split <;> rfl
@[simp] theorem takeAnswer_helper : (s.takeAnswer).helper = s.helper := by unfold State.takeAnswer; split <;> rfl
@[simp] theorem takeAnswer_results : (s.takeAnswer).results = s.results := by unfold State.takeAnswer; split <;> rfl
@[simp] theorem takeAnswer_pixOut : (s.takeAnswer).pixOut = s.pixOut := by unfold State.takeAnswer; split <;> rfl

end

/-! `linkOpen` -/

section

variable (s : State) (b t : Word)

@[simp] theorem linkOpen_sess : (linkOpen b t s).sess = s.sess := by simp [linkOpen]
@[simp] theorem linkOpen_fsm : (linkOpen b t s).fsm = s.fsm := by simp [linkOpen]
@[simp] theorem linkOpen_width : (linkOpen b t s).width = s.width := by simp [linkOpen]
@[simp] theorem linkOpen_height : (linkOpen b t s).height = s.height := by simp [linkOpen]
@[simp] theorem linkOpen_baud : (linkOpen b t s).baud = s.baud := by simp [linkOpen]
@[simp] theorem linkOpen_tRead : (linkOpen b t s).tRead = s.tRead := by simp [linkOpen]
@[simp] theorem linkOpen_len : (linkOpen b t s).len = s.len := by simp [linkOpen]
@[simp] theorem linkOpen_buf : (linkOpen b t s).buf = s.buf := by simp [linkOpen]
@[simp] theorem linkOpen_cur : (linkOpen b t s).cur = s.cur := by simp [linkOpen]
@[simp] theorem linkOpen_txf : (linkOpen b t s).txf = s.txf := by simp [linkOpen]
@[simp] theorem linkOpen_fault : (linkOpen b t s).fault = s.fault := by simp [linkOpen]
@[simp] theorem linkOpen_hist : (linkOpen b t s).hist = s.hist ++ [.opening b t s.openAnswer] := by simp [linkOpen]
@[simp] theorem linkOpen_params : (linkOpen b t s).params = s.params := by simp [linkOpen]
@[simp] theorem linkOpen_hostReq : (linkOpen b t s).hostReq = s.hostReq := by simp [linkOpen]
@[simp] theorem linkOpen_signals : (linkOpen b t s).signals = s.signals := by simp [linkOpen]
@[simp] theorem linkOpen_rsp : (linkOpen b t s).rsp = s.rsp := by simp [linkOpen]
@[simp] theorem linkOpen_helper : (linkOpen b t s).helper = s.helper := by simp [linkOpen]
@[simp] theorem linkOpen_results : (linkOpen b t s).results = s.results := by simp [linkOpen]
@[simp] theorem linkOpen_pixOut : (linkOpen b t s).pixOut = s.pixOut := by simp [linkOpen]

end

/-! `linkFlush` -/

section

variable (s : State)

@[simp] theorem linkFlush_sess : (linkFlush s).sess = s.sess := by simp [linkFlush]
@[simp] theorem linkFlush_fsm : (linkFlush s).fsm = s.fsm := by simp [linkFlush]
@[simp] theorem linkFlush_width : (linkFlush s).width = s.width := by simp [linkFlush]
@[simp] theorem linkFlush_height : (linkFlush s).height = s.height := by simp [linkFlush]
@[simp] theorem linkFlush_baud : (linkFlush s).baud = s.baud := by simp [linkFlush]
@[simp] theorem linkFlush_tRead : (linkFlush s).tRead = s.tRead := by simp [linkFlush]
@[simp] theorem linkFlush_len : (linkFlush s).len = s.len := by simp [linkFlush]
@[simp] theorem linkFlush_buf : (linkFlush s).buf = s.buf := by simp [linkFlush]
@[simp] theorem linkFlush_cur : (linkFlush s).cur = s.cur := by simp [linkFlush]
@[simp] theorem linkFlush_txf : (linkFlush s).txf = s.txf := by simp [linkFlush]
@[simp] theorem linkFlush_fault : (linkFlush s).fault = s.fault := by simp [linkFlush]
@[simp] theorem linkFlush_hist : (linkFlush s).hist = s.hist ++ [.flush s.lineAnswer] := by simp [linkFlush]
@[simp] theorem linkFlush_params : (linkFlush s).params = s.params := by simp [linkFlush]
@[simp] theorem linkFlush_hostReq : (linkFlush s).hostReq = s.hostReq := by simp [linkFlush]
@[simp] theorem linkFlush_signals : (linkFlush s).signals = s.signals := by simp [linkFlush]
@[simp] theorem linkFlush_rsp : (linkFlush s).rsp = s.rsp := by simp [linkFlush]
@[simp] theorem linkFlush_helper : (linkFlush s).helper = s.helper := by simp [linkFlush]
@[simp] theorem linkFlush_results : (linkFlush s).results = s.results := by simp [linkFlush]
@[simp] theorem linkFlush_pixOut : (linkFlush s).pixOut = s.pixOut := by simp [linkFlush]

end

/-! `linkWrite` -/

section

variable (s : State) (f : List Byte)

@[simp] theorem linkWrite_sess : (linkWrite f s).sess = s.sess := by simp [linkWrite]
@[simp] theorem linkWrite_fsm : (linkWrite f s).fsm = s.fsm := by simp [linkWrite]
@[simp] theorem linkWrite_width : (linkWrite f s).width = s.width := by simp [linkWrite]
@[simp] theorem linkWrite_height : (linkWrite f s).height = s.height := by simp [linkWrite]
@[simp] theorem linkWrite_baud : (linkWrite f s).baud = s.baud := by simp [linkWrite]
@[simp] theorem linkWrite_tRead : (linkWrite f s).tRead = s.tRead := by simp [linkWrite]
@[simp] theorem linkWrite_len : (linkWrite f s).len = s.len := by simp [linkWrite]
@[simp] theorem linkWrite_buf : (linkWrite f s).buf = s.buf := by simp [linkWrite]
@[simp] theorem linkWrite_cur : (linkWrite f s).cur = s.cur := by simp [linkWrite]
@[simp] theorem linkWrite_txf : (linkWrite f s).txf = s.txf := by simp [linkWrite]
@[simp] theorem linkWrite_fault : (linkWrite f s).fault = s.fault := by simp [linkWrite]
@[simp] theorem linkWrite_hist : (linkWrite f s).hist = s.hist ++ [.write f s.lineAnswer] := by simp [linkWrite]
@[simp] theorem linkWrite_params : (linkWrite f s).params = s.params := by simp [linkWrite]
@[simp] theorem linkWrite_hostReq : (linkWrite f s).hostReq = s.hostReq := by simp [linkWrite]
@[simp] theorem linkWrite_signals : (linkWrite f s).signals = s.signals := by simp [linkWrite]
@[simp] theorem linkWrite_rsp : (linkWrite f s).rsp = s.rsp := by simp [linkWrite]
@[simp] theorem linkWrite_helper : (linkWrite f s).helper = s.helper := by simp [linkWrite]
@[simp] theorem linkWrite_results : (linkWrite f s).results = s.results := by simp [linkWrite]
@[simp] theorem linkWrite_pixOut : (linkWrite f s).pixOut = s.pixOut := by simp [linkWrite]

end

/-! `linkRead` -/

section

variable (s : State) (n : Nat)

@[simp] theorem linkRead_sess : (linkRead n s).sess = s.sess := by simp [linkRead]
@[simp] theorem linkRead_fsm : (linkRead n s).fsm = s.fsm := by simp [linkRead]
@[simp] theorem linkRead_width : (linkRead n s).width = s.width := by simp [linkRead]
@[simp] theorem linkRead_height : (linkRead n s).height = s.height := by simp [linkRead]
@[simp] theorem linkRead_baud : (linkRead n s).baud = s.baud := by simp [linkRead]
@[simp] theorem linkRead_tRead : (linkRead n s).tRead = s.tRead := by simp [linkRead]
@[simp] theorem linkRead_len : (linkRead n s).len = s.len := by simp [linkRead]
@[simp] theorem linkRead_buf : (linkRead n s).buf = s.buf := by simp [linkRead]
@[simp] theorem linkRead_cur : (linkRead n s).cur = s.cur := by simp [linkRead]
@[simp] theorem linkRead_txf : (linkRead n s).txf = s.txf := by simp [linkRead]
@[simp] theorem linkRead_fault : (linkRead n s).fault = s.fault := by simp [linkRead]
@[simp] theorem linkRead_hist : (linkRead n s).hist = s.hist ++ [.read n (s.readAnswer n)] := by simp [linkRead]
@[simp] theorem linkRead_params : (linkRead n s).params = s.params := by simp [linkRead]
@[simp] theorem linkRead_hostReq : (linkRead n s).hostReq = s.hostReq := by simp [linkRead]
@[simp] theorem linkRead_signals : (linkRead n s).signals = s.signals := by simp [linkRead]
@[simp] theorem linkRead_rsp : (linkRead n s).rsp = s.rsp := by simp [linkRead]
@[simp] theorem linkRead_helper : (linkRead n s).helper = s.helper := by simp [linkRead]
@[simp] theorem linkRead_results : (linkRead n s).results = s.results := by simp [linkRead]
@[simp] theorem linkRead_pixOut : (linkRead n s).pixOut = s.pixOut := by simp [linkRead]

end

/-! The events of a close and the response of an abort -/

@[simp] theorem closeEvents_true : closeEvents true = [.closing] := rfl
@[simp] theorem closeEvents_false : closeEvents false = [] := rfl
@[simp] theorem abortResponses_some (i : Instr) : abortResponses (some i) = [{ status := .aborted }] := rfl
@[simp] theorem abortResponses_none : abortResponses none = [] := rfl

/-! `closeLink`: SESS and HIST change -/

section

variable (s : State)

@[simp] theorem closeLink_sess : (closeLink s).sess = false := rfl
@[simp] theorem closeLink_fsm : (closeLink s).fsm = s.fsm := rfl
@[simp] theorem closeLink_width : (closeLink s).width = s.width := rfl
@[simp] theorem closeLink_height : (closeLink s).height = s.height := rfl
@[simp] theorem closeLink_baud : (closeLink s).baud = s.baud := rfl
@[simp] theorem closeLink_tRead : (closeLink s).tRead = s.tRead := rfl
@[simp] theorem closeLink_len : (closeLink s).len = s.len := rfl
@[simp] theorem closeLink_buf : (closeLink s).buf = s.buf := rfl
@[simp] theorem closeLink_cur : (closeLink s).cur = s.cur := rfl
@[simp] theorem closeLink_txf : (closeLink s).txf = s.txf := rfl
@[simp] theorem closeLink_fault : (closeLink s).fault = s.fault := rfl
@[simp] theorem closeLink_hist : (closeLink s).hist = s.hist ++ closeEvents s.sess := rfl
@[simp] theorem closeLink_params : (closeLink s).params = s.params := rfl
@[simp] theorem closeLink_hostReq : (closeLink s).hostReq = s.hostReq := rfl
@[simp] theorem closeLink_signals : (closeLink s).signals = s.signals := rfl
@[simp] theorem closeLink_link : (closeLink s).link = s.link := rfl
@[simp] theorem closeLink_freeCount : (closeLink s).freeCount = s.freeCount := rfl
@[simp] theorem closeLink_rsp : (closeLink s).rsp = s.rsp := rfl
@[simp] theorem closeLink_helper : (closeLink s).helper = s.helper := rfl
@[simp] theorem closeLink_results : (closeLink s).results = s.results := rfl
@[simp] theorem closeLink_pixOut : (closeLink s).pixOut = s.pixOut := rfl

end

/-! `ioError` -/

section

variable (s : State)

@[simp] theorem ioError_sess : (ioError s).sess = false := rfl
@[simp] theorem ioError_fsm : (ioError s).fsm = .idle := rfl
@[simp] theorem ioError_width : (ioError s).width = s.width := rfl
@[simp] theorem ioError_height : (ioError s).height = s.height := rfl
@[simp] theorem ioError_baud : (ioError s).baud = s.baud := rfl
@[simp] theorem ioError_tRead : (ioError s).tRead = s.tRead := rfl
@[simp] theorem ioError_len : (ioError s).len = 0 := rfl
@[simp] theorem ioError_buf : (ioError s).buf = [] := rfl
@[simp] theorem ioError_cur : (ioError s).cur = none := rfl
@[simp] theorem ioError_txf : (ioError s).txf = none := rfl
@[simp] theorem ioError_fault : (ioError s).fault = s.fault := rfl
@[simp] theorem ioError_hist : (ioError s).hist = s.hist ++ closeEvents s.sess := rfl
@[simp] theorem ioError_params : (ioError s).params = s.params := rfl
@[simp] theorem ioError_hostReq : (ioError s).hostReq = s.hostReq := rfl
@[simp] theorem ioError_signals : (ioError s).signals = s.signals := rfl
@[simp] theorem ioError_link : (ioError s).link = s.link := rfl
@[simp] theorem ioError_freeCount : (ioError s).freeCount = s.freeCount := rfl
@[simp] theorem ioError_rsp : (ioError s).rsp = s.rsp ++ [{ status := .ioError }] := rfl
@[simp] theorem ioError_helper : (ioError s).helper = s.helper := rfl
@[simp] theorem ioError_results : (ioError s).results = s.results := rfl
@[simp] theorem ioError_pixOut : (ioError s).pixOut = s.pixOut := rfl

end

/-! `teardown` -/

section

variable (s : State)

@[simp] theorem teardown_sess : (teardown s).sess = false := rfl
@[simp] theorem teardown_fsm : (teardown s).fsm = .idle := rfl
@[simp] theorem teardown_width : (teardown s).width = s.width := rfl
@[simp] theorem teardown_height : (teardown s).height = s.height := rfl
@[simp] theorem teardown_baud : (teardown s).baud = s.baud := rfl
@[simp] theorem teardown_tRead : (teardown s).tRead = s.tRead := rfl
@[simp] theorem teardown_len : (teardown s).len = 0 := rfl
@[simp] theorem teardown_buf : (teardown s).buf = [] := rfl
@[simp] theorem teardown_cur : (teardown s).cur = none := rfl
@[simp] theorem teardown_txf : (teardown s).txf = none := rfl
@[simp] theorem teardown_fault : (teardown s).fault = s.fault := rfl
@[simp] theorem teardown_hist : (teardown s).hist = s.hist ++ closeEvents s.sess := rfl
@[simp] theorem teardown_params : (teardown s).params = s.params := rfl
@[simp] theorem teardown_hostReq : (teardown s).hostReq = s.hostReq := rfl
@[simp] theorem teardown_signals : (teardown s).signals = s.signals := rfl
@[simp] theorem teardown_link : (teardown s).link = s.link := rfl
@[simp] theorem teardown_freeCount : (teardown s).freeCount = s.freeCount := rfl
@[simp] theorem teardown_rsp : (teardown s).rsp = s.rsp ++ abortResponses s.cur := rfl
@[simp] theorem teardown_helper : (teardown s).helper = s.helper := rfl
@[simp] theorem teardown_results : (teardown s).results = s.results := rfl
@[simp] theorem teardown_pixOut : (teardown s).pixOut = s.pixOut := rfl

end

/-! `latch` -/

section

variable (s : State) (i : Instr)

@[simp] theorem latch_sess : (latch i s).sess = s.sess := rfl
@[simp] theorem latch_fsm : (latch i s).fsm = s.fsm := rfl
@[simp] theorem latch_width : (latch i s).width = s.width := rfl
@[simp] theorem latch_height : (latch i s).height = s.height := rfl
@[simp] theorem latch_baud : (latch i s).baud = s.baud := rfl
@[simp] theorem latch_tRead : (latch i s).tRead = s.tRead := rfl
@[simp] theorem latch_len : (latch i s).len = s.len := rfl
@[simp] theorem latch_buf : (latch i s).buf = s.buf := rfl
@[simp] theorem latch_cur : (latch i s).cur = some i := rfl
@[simp] theorem latch_txf : (latch i s).txf = s.txf := rfl
@[simp] theorem latch_fault : (latch i s).fault = s.fault := rfl
@[simp] theorem latch_hist : (latch i s).hist = s.hist := rfl
@[simp] theorem latch_params : (latch i s).params = s.params := rfl
@[simp] theorem latch_hostReq : (latch i s).hostReq = s.hostReq := rfl
@[simp] theorem latch_signals : (latch i s).signals = s.signals := rfl
@[simp] theorem latch_link : (latch i s).link = s.link := rfl
@[simp] theorem latch_freeCount : (latch i s).freeCount = s.freeCount := rfl
@[simp] theorem latch_rsp : (latch i s).rsp = s.rsp := rfl
@[simp] theorem latch_helper : (latch i s).helper = s.helper := rfl
@[simp] theorem latch_results : (latch i s).results = s.results := rfl
@[simp] theorem latch_pixOut : (latch i s).pixOut = s.pixOut := rfl

end

/-! `loadFrame` -/

section

variable (s : State) (f : List Byte)

@[simp] theorem loadFrame_sess : (loadFrame f s).sess = s.sess := rfl
@[simp] theorem loadFrame_fsm : (loadFrame f s).fsm = .flush := rfl
@[simp] theorem loadFrame_width : (loadFrame f s).width = s.width := rfl
@[simp] theorem loadFrame_height : (loadFrame f s).height = s.height := rfl
@[simp] theorem loadFrame_baud : (loadFrame f s).baud = s.baud := rfl
@[simp] theorem loadFrame_tRead : (loadFrame f s).tRead = s.tRead := rfl
@[simp] theorem loadFrame_len : (loadFrame f s).len = s.len := rfl
@[simp] theorem loadFrame_buf : (loadFrame f s).buf = s.buf := rfl
@[simp] theorem loadFrame_cur : (loadFrame f s).cur = s.cur := rfl
@[simp] theorem loadFrame_txf : (loadFrame f s).txf = some f := rfl
@[simp] theorem loadFrame_fault : (loadFrame f s).fault = s.fault := rfl
@[simp] theorem loadFrame_hist : (loadFrame f s).hist = s.hist := rfl
@[simp] theorem loadFrame_params : (loadFrame f s).params = s.params := rfl
@[simp] theorem loadFrame_hostReq : (loadFrame f s).hostReq = s.hostReq := rfl
@[simp] theorem loadFrame_signals : (loadFrame f s).signals = s.signals := rfl
@[simp] theorem loadFrame_link : (loadFrame f s).link = s.link := rfl
@[simp] theorem loadFrame_freeCount : (loadFrame f s).freeCount = s.freeCount := rfl
@[simp] theorem loadFrame_rsp : (loadFrame f s).rsp = s.rsp := rfl
@[simp] theorem loadFrame_helper : (loadFrame f s).helper = s.helper := rfl
@[simp] theorem loadFrame_results : (loadFrame f s).results = s.results := rfl
@[simp] theorem loadFrame_pixOut : (loadFrame f s).pixOut = s.pixOut := rfl

end

/-! `toTx` -/

section

variable (s : State)

@[simp] theorem toTx_sess : (toTx s).sess = s.sess := rfl
@[simp] theorem toTx_fsm : (toTx s).fsm = .tx := rfl
@[simp] theorem toTx_width : (toTx s).width = s.width := rfl
@[simp] theorem toTx_height : (toTx s).height = s.height := rfl
@[simp] theorem toTx_baud : (toTx s).baud = s.baud := rfl
@[simp] theorem toTx_tRead : (toTx s).tRead = s.tRead := rfl
@[simp] theorem toTx_len : (toTx s).len = s.len := rfl
@[simp] theorem toTx_buf : (toTx s).buf = s.buf := rfl
@[simp] theorem toTx_cur : (toTx s).cur = s.cur := rfl
@[simp] theorem toTx_txf : (toTx s).txf = s.txf := rfl
@[simp] theorem toTx_fault : (toTx s).fault = s.fault := rfl
@[simp] theorem toTx_hist : (toTx s).hist = s.hist := rfl
@[simp] theorem toTx_params : (toTx s).params = s.params := rfl
@[simp] theorem toTx_hostReq : (toTx s).hostReq = s.hostReq := rfl
@[simp] theorem toTx_signals : (toTx s).signals = s.signals := rfl
@[simp] theorem toTx_link : (toTx s).link = s.link := rfl
@[simp] theorem toTx_freeCount : (toTx s).freeCount = s.freeCount := rfl
@[simp] theorem toTx_rsp : (toTx s).rsp = s.rsp := rfl
@[simp] theorem toTx_helper : (toTx s).helper = s.helper := rfl
@[simp] theorem toTx_results : (toTx s).results = s.results := rfl
@[simp] theorem toTx_pixOut : (toTx s).pixOut = s.pixOut := rfl

end

/-! `dropFrame` -/

section

variable (s : State)

@[simp] theorem dropFrame_sess : (dropFrame s).sess = s.sess := rfl
@[simp] theorem dropFrame_fsm : (dropFrame s).fsm = s.fsm := rfl
@[simp] theorem dropFrame_width : (dropFrame s).width = s.width := rfl
@[simp] theorem dropFrame_height : (dropFrame s).height = s.height := rfl
@[simp] theorem dropFrame_baud : (dropFrame s).baud = s.baud := rfl
@[simp] theorem dropFrame_tRead : (dropFrame s).tRead = s.tRead := rfl
@[simp] theorem dropFrame_len : (dropFrame s).len = s.len := rfl
@[simp] theorem dropFrame_buf : (dropFrame s).buf = s.buf := rfl
@[simp] theorem dropFrame_cur : (dropFrame s).cur = s.cur := rfl
@[simp] theorem dropFrame_txf : (dropFrame s).txf = none := rfl
@[simp] theorem dropFrame_fault : (dropFrame s).fault = s.fault := rfl
@[simp] theorem dropFrame_hist : (dropFrame s).hist = s.hist := rfl
@[simp] theorem dropFrame_params : (dropFrame s).params = s.params := rfl
@[simp] theorem dropFrame_hostReq : (dropFrame s).hostReq = s.hostReq := rfl
@[simp] theorem dropFrame_signals : (dropFrame s).signals = s.signals := rfl
@[simp] theorem dropFrame_link : (dropFrame s).link = s.link := rfl
@[simp] theorem dropFrame_freeCount : (dropFrame s).freeCount = s.freeCount := rfl
@[simp] theorem dropFrame_rsp : (dropFrame s).rsp = s.rsp := rfl
@[simp] theorem dropFrame_helper : (dropFrame s).helper = s.helper := rfl
@[simp] theorem dropFrame_results : (dropFrame s).results = s.results := rfl
@[simp] theorem dropFrame_pixOut : (dropFrame s).pixOut = s.pixOut := rfl

end

/-! `awaiting` -/

section

variable (s : State) (h : Helper)

@[simp] theorem awaiting_sess : (awaiting h s).sess = s.sess := rfl
@[simp] theorem awaiting_fsm : (awaiting h s).fsm = s.fsm := rfl
@[simp] theorem awaiting_width : (awaiting h s).width = s.width := rfl
@[simp] theorem awaiting_height : (awaiting h s).height = s.height := rfl
@[simp] theorem awaiting_baud : (awaiting h s).baud = s.baud := rfl
@[simp] theorem awaiting_tRead : (awaiting h s).tRead = s.tRead := rfl
@[simp] theorem awaiting_len : (awaiting h s).len = s.len := rfl
@[simp] theorem awaiting_buf : (awaiting h s).buf = s.buf := rfl
@[simp] theorem awaiting_cur : (awaiting h s).cur = s.cur := rfl
@[simp] theorem awaiting_txf : (awaiting h s).txf = s.txf := rfl
@[simp] theorem awaiting_fault : (awaiting h s).fault = s.fault := rfl
@[simp] theorem awaiting_hist : (awaiting h s).hist = s.hist := rfl
@[simp] theorem awaiting_params : (awaiting h s).params = s.params := rfl
@[simp] theorem awaiting_hostReq : (awaiting h s).hostReq = s.hostReq := rfl
@[simp] theorem awaiting_signals : (awaiting h s).signals = s.signals := rfl
@[simp] theorem awaiting_link : (awaiting h s).link = s.link := rfl
@[simp] theorem awaiting_freeCount : (awaiting h s).freeCount = s.freeCount := rfl
@[simp] theorem awaiting_rsp : (awaiting h s).rsp = s.rsp := rfl
@[simp] theorem awaiting_helper : (awaiting h s).helper = some h := rfl
@[simp] theorem awaiting_results : (awaiting h s).results = s.results := rfl
@[simp] theorem awaiting_pixOut : (awaiting h s).pixOut = s.pixOut := rfl

end

/-! `emitPixel` -/

section

variable (s : State) (p : Pixel)

@[simp] theorem emitPixel_sess : (emitPixel p s).sess = s.sess := rfl
@[simp] theorem emitPixel_fsm : (emitPixel p s).fsm = s.fsm := rfl
@[simp] theorem emitPixel_width : (emitPixel p s).width = s.width := rfl
@[simp] theorem emitPixel_height : (emitPixel p s).height = s.height := rfl
@[simp] theorem emitPixel_baud : (emitPixel p s).baud = s.baud := rfl
@[simp] theorem emitPixel_tRead : (emitPixel p s).tRead = s.tRead := rfl
@[simp] theorem emitPixel_len : (emitPixel p s).len = s.len := rfl
@[simp] theorem emitPixel_buf : (emitPixel p s).buf = s.buf := rfl
@[simp] theorem emitPixel_cur : (emitPixel p s).cur = s.cur := rfl
@[simp] theorem emitPixel_txf : (emitPixel p s).txf = s.txf := rfl
@[simp] theorem emitPixel_fault : (emitPixel p s).fault = s.fault := rfl
@[simp] theorem emitPixel_hist : (emitPixel p s).hist = s.hist := rfl
@[simp] theorem emitPixel_params : (emitPixel p s).params = s.params := rfl
@[simp] theorem emitPixel_hostReq : (emitPixel p s).hostReq = s.hostReq := rfl
@[simp] theorem emitPixel_signals : (emitPixel p s).signals = s.signals := rfl
@[simp] theorem emitPixel_link : (emitPixel p s).link = s.link := rfl
@[simp] theorem emitPixel_freeCount : (emitPixel p s).freeCount = s.freeCount := rfl
@[simp] theorem emitPixel_rsp : (emitPixel p s).rsp = s.rsp := rfl
@[simp] theorem emitPixel_helper : (emitPixel p s).helper = s.helper := rfl
@[simp] theorem emitPixel_results : (emitPixel p s).results = s.results := rfl
@[simp] theorem emitPixel_pixOut : (emitPixel p s).pixOut = s.pixOut ++ [p] := rfl

end

/-! `leaveLines` -/

section

variable (s : State) (rest : List HostLine)

@[simp] theorem leaveLines_sess : (leaveLines rest s).sess = s.sess := rfl
@[simp] theorem leaveLines_fsm : (leaveLines rest s).fsm = s.fsm := rfl
@[simp] theorem leaveLines_width : (leaveLines rest s).width = s.width := rfl
@[simp] theorem leaveLines_height : (leaveLines rest s).height = s.height := rfl
@[simp] theorem leaveLines_baud : (leaveLines rest s).baud = s.baud := rfl
@[simp] theorem leaveLines_tRead : (leaveLines rest s).tRead = s.tRead := rfl
@[simp] theorem leaveLines_len : (leaveLines rest s).len = s.len := rfl
@[simp] theorem leaveLines_buf : (leaveLines rest s).buf = s.buf := rfl
@[simp] theorem leaveLines_cur : (leaveLines rest s).cur = s.cur := rfl
@[simp] theorem leaveLines_txf : (leaveLines rest s).txf = s.txf := rfl
@[simp] theorem leaveLines_fault : (leaveLines rest s).fault = s.fault := rfl
@[simp] theorem leaveLines_hist : (leaveLines rest s).hist = s.hist := rfl
@[simp] theorem leaveLines_params : (leaveLines rest s).params = s.params := rfl
@[simp] theorem leaveLines_hostReq : (leaveLines rest s).hostReq = rest := rfl
@[simp] theorem leaveLines_signals : (leaveLines rest s).signals = s.signals := rfl
@[simp] theorem leaveLines_link : (leaveLines rest s).link = s.link := rfl
@[simp] theorem leaveLines_freeCount : (leaveLines rest s).freeCount = s.freeCount := rfl
@[simp] theorem leaveLines_rsp : (leaveLines rest s).rsp = s.rsp := rfl
@[simp] theorem leaveLines_helper : (leaveLines rest s).helper = s.helper := rfl
@[simp] theorem leaveLines_results : (leaveLines rest s).results = s.results := rfl
@[simp] theorem leaveLines_pixOut : (leaveLines rest s).pixOut = s.pixOut := rfl

end

/-! What a link primitive takes from the link agent -/

section

variable (s : State) (b t : Word) (f : List Byte) (n : Nat)

@[simp] theorem linkOpen_link : (linkOpen b t s).link = s.takeAnswer.link := rfl
@[simp] theorem linkOpen_freeCount : (linkOpen b t s).freeCount = s.takeAnswer.freeCount := rfl
@[simp] theorem linkFlush_link : (linkFlush s).link = s.takeAnswer.link := rfl
@[simp] theorem linkFlush_freeCount : (linkFlush s).freeCount = s.takeAnswer.freeCount := rfl
@[simp] theorem linkWrite_link : (linkWrite f s).link = s.takeAnswer.link := rfl
@[simp] theorem linkWrite_freeCount : (linkWrite f s).freeCount = s.takeAnswer.freeCount := rfl
@[simp] theorem linkRead_link : (linkRead n s).link = s.takeAnswer.link := rfl
@[simp] theorem linkRead_freeCount : (linkRead n s).freeCount = s.takeAnswer.freeCount := rfl

end

end Sys2Proof.Machine
end

