-- ==== Sys2Proof/Laws/Ops.lean ====
section
/-! SUPPORT. One lemma per shared operation that says what it can do; the provers cite these instead of unfolding. -/

namespace Sys2Proof.Machine

/-- READY (R26). -/
theorem ready_iff (s : State) : s.ready = true ↔ s.fsm = .idle ∧ s.fault = none := by
  simp [State.ready]

/-! ## Link answers -/

theorem answer_script {s : State} {a : LinkAnswer} {rest : List LinkAnswer} (h : s.link = a :: rest) :
    s.answer = a ∧ s.takeAnswer = { s with link := rest } := by
  simp [State.answer, State.takeAnswer, h]

theorem openAnswer_done {s : State} {c : List Byte} {rest : List LinkAnswer} (h : s.link = .done c :: rest) :
    s.openAnswer = .ok := by
  simp [State.openAnswer, (answer_script h).1]

theorem lineAnswer_done {s : State} {c : List Byte} {rest : List LinkAnswer} (h : s.link = .done c :: rest) :
    s.lineAnswer = .ok := by
  simp [State.lineAnswer, (answer_script h).1]

theorem lineAnswer_failed {s : State} {rest : List LinkAnswer} (h : s.link = .failed :: rest) :
    s.lineAnswer = .disconnected := by
  simp [State.lineAnswer, (answer_script h).1]

theorem readAnswer_done {s : State} {c : List Byte} {rest : List LinkAnswer} (h : s.link = .done c :: rest) (n : Nat) :
    s.readAnswer n = .chunk c := by
  simp [State.readAnswer, State.answer, h]

theorem readAnswer_failed {s : State} {rest : List LinkAnswer} (h : s.link = .failed :: rest) (n : Nat) :
    s.readAnswer n = .disconnected := by
  simp [State.readAnswer, State.answer, h]

/-- A free answer to a Read keeps the bound of R22. -/
theorem readAnswer_free {s : State} (h : s.link = []) {n : Nat} {c : List Byte} (hc : s.readAnswer n = .chunk c) :
    c.length ≤ n := by
  unfold State.readAnswer at hc
  rw [h] at hc
  split at hc
  · cases hc
  · rename_i heq _; cases heq
  · cases hc; simp

/-- Latching a request, loading a frame and waiting for a response leave the link agent's answers alone. -/
@[simp] theorem latch_lineAnswer (i : Instr) (s : State) : (latch i s).lineAnswer = s.lineAnswer := rfl
@[simp] theorem latch_openAnswer (i : Instr) (s : State) : (latch i s).openAnswer = s.openAnswer := rfl
@[simp] theorem loadFrame_lineAnswer (f : List Byte) (s : State) : (loadFrame f s).lineAnswer = s.lineAnswer := rfl
@[simp] theorem awaiting_lineAnswer (h : Helper) (s : State) : (awaiting h s).lineAnswer = s.lineAnswer := rfl

theorem latch_takeAnswer (i : Instr) (s : State) : (latch i s).takeAnswer = latch i s.takeAnswer := by
  unfold State.takeAnswer latch; dsimp only; split <;> rfl

theorem loadFrame_takeAnswer (f : List Byte) (s : State) : (loadFrame f s).takeAnswer = loadFrame f s.takeAnswer := by
  unfold State.takeAnswer loadFrame; dsimp only; split <;> rfl

theorem awaiting_takeAnswer (h : Helper) (s : State) : (awaiting h s).takeAnswer = awaiting h s.takeAnswer := by
  unfold State.takeAnswer awaiting; dsimp only; split <;> rfl

/-! ## The shape of an operation -/

theorem operate_fault {i : Instr} {accept resume : State → Answer} {s : State} {f : Fault} (h : s.fault = some f) :
    operate i accept resume s = .fault f := by
  simp [operate, h]

theorem operate_idle {i : Instr} {accept resume : State → Answer} {s : State} (hf : s.fault = none)
    (h : s.fsm = .idle) : operate i accept resume s = accept (latch i s) := by
  simp [operate, hf, h]

theorem operate_resume {i : Instr} {accept resume : State → Answer} {s : State} (hf : s.fault = none)
    (h : s.fsm ≠ .idle) (hc : s.cur = some i) : operate i accept resume s = resume s := by
  simp [operate, hf, h, hc]

theorem operate_hold {i : Instr} {accept resume : State → Answer} {s : State} (hf : s.fault = none)
    (h : s.fsm ≠ .idle) (hc : s.cur ≠ some i) : operate i accept resume s = .next s := by
  simp [operate, hf, h, hc]

/-- Everything one step of an operation can answer. -/
theorem operate_cases {i : Instr} {accept resume : State → Answer} {s s' : State}
    (h : operate i accept resume s = .next s') :
    s.fault = none ∧
      ((s.fsm = .idle ∧ accept (latch i s) = .next s') ∨
        (s.fsm ≠ .idle ∧ s.cur = some i ∧ resume s = .next s') ∨ (s.fsm ≠ .idle ∧ s.cur ≠ some i ∧ s' = s)) := by
  unfold operate at h
  split at h
  · cases h
  · rename_i hf
    refine ⟨hf, ?_⟩
    split at h
    · exact .inl ⟨‹_›, h⟩
    · split at h
      · exact .inr (.inl ⟨‹_›, ‹_›, h⟩)
      · cases h; exact .inr (.inr ⟨‹_›, ‹_›, rfl⟩)

theorem finish_eq (r : Response) (s : State) : finish r s = .next (respond r s) := rfl

theorem unreachable_eq (s : State) : unreachable s = .next (raiseFault .unreachableFsm s) := rfl

/-- `torn` looks at the tape of signals only. -/
theorem torn_congr {s t : State} (h : t.signals = s.signals) : t.torn = s.torn := by
  unfold State.torn State.signal
  rw [h]

theorem torn_of_quiet {s : State} (h : s.signal = .quiet) : s.torn = false := by
  simp [State.torn, h]

theorem torn_of_signals_nil {s : State} (h : s.signals = []) : s.torn = false := by
  simp [State.torn, State.signal, h]

@[simp] theorem latch_torn (i : Instr) (s : State) : (latch i s).torn = s.torn := rfl
@[simp] theorem loadFrame_torn (f : List Byte) (s : State) : (loadFrame f s).torn = s.torn := rfl
@[simp] theorem awaiting_torn (h : Helper) (s : State) : (awaiting h s).torn = s.torn := rfl
@[simp] theorem leaveLines_torn (l : List HostLine) (s : State) : (leaveLines l s).torn = s.torn := rfl
@[simp] theorem linkFlush_torn (s : State) : (linkFlush s).torn = s.torn := torn_congr (linkFlush_signals ..)
@[simp] theorem linkWrite_torn (f : List Byte) (s : State) : (linkWrite f s).torn = s.torn :=
  torn_congr (linkWrite_signals ..)
@[simp] theorem linkRead_torn (n : Nat) (s : State) : (linkRead n s).torn = s.torn := torn_congr (linkRead_signals ..)

/-- No pulse during the step: the answer is used. -/
theorem afterPrimitive_use {done : State} {use : Answer} (h : done.torn = false) : afterPrimitive done use = use := by
  simp [afterPrimitive, h]

/-- A pulse during the step: the primitive's event stands, and nothing else follows from its answer (R93). -/
theorem afterPrimitive_torn {done : State} {use : Answer} (h : done.torn = true) : afterPrimitive done use = .next done := by
  simp [afterPrimitive, h]

/-- Everything that can follow a link primitive. -/
theorem afterPrimitive_cases {done s' : State} {use : Answer} (h : afterPrimitive done use = .next s') :
    (done.torn = true ∧ s' = done) ∨ (done.torn = false ∧ use = .next s') := by
  cases ht : done.torn with
  | true => rw [afterPrimitive_torn ht] at h; cases h; exact .inl ⟨rfl, rfl⟩
  | false => rw [afterPrimitive_use ht] at h; exact .inr ⟨rfl, h⟩

theorem flushPhase_eq {s : State} (ht : s.torn = false) :
    flushPhase s =
      .next (if s.lineAnswer = .ok then toTx (linkFlush s) else ioError (linkFlush s)) := by
  rw [flushPhase, afterPrimitive_use (by simpa)]
  cases h : s.lineAnswer <;> simp

theorem flushPhase_torn {s : State} (ht : s.torn = true) : flushPhase s = .next (linkFlush s) :=
  afterPrimitive_torn (by simpa)

theorem writePhase_some {sent : State → State} {s : State} {f : List Byte} (ht : s.torn = false) (h : s.txf = some f) :
    writePhase sent s =
      .next (if s.lineAnswer = .ok then sent (dropFrame (linkWrite f s)) else ioError (linkWrite f s)) := by
  unfold writePhase
  rw [h]
  show afterPrimitive _ _ = _
  rw [afterPrimitive_use (by simpa)]
  cases h : s.lineAnswer <;> simp

theorem writePhase_torn {sent : State → State} {s : State} {f : List Byte} (ht : s.torn = true) (h : s.txf = some f) :
    writePhase sent s = .next (linkWrite f s) := by
  unfold writePhase
  rw [h]
  exact afterPrimitive_torn (by simpa)

theorem writePhase_none {sent : State → State} {s : State} (h : s.txf = none) :
    writePhase sent s = .next (raiseFault .unreachableFsm s) := by
  simp [writePhase, h, unreachable_eq]

theorem acceptCommand_badArgs (frame : List Byte) (s : State) :
    acceptCommand false frame s = .next (respond { status := .invalidArgument } s) := rfl

theorem acceptCommand_closed {frame : List Byte} {s : State} (h : s.sess = false) :
    acceptCommand true frame s = .next (respond { status := .invalidState } s) := by
  simp [acceptCommand, h, finish_eq]

theorem acceptCommand_open {frame : List Byte} {s : State} (h : s.sess = true) :
    acceptCommand true frame s = flushPhase (loadFrame frame s) := by
  simp [acceptCommand, h]

/-- Everything the acceptance step of a command can answer. -/
theorem acceptCommand_cases {argsOk : Bool} {frame : List Byte} {s s' : State}
    (h : acceptCommand argsOk frame s = .next s') :
    (argsOk = false ∧ s' = respond { status := .invalidArgument } s) ∨
      (argsOk = true ∧ s.sess = false ∧ s' = respond { status := .invalidState } s) ∨
      (argsOk = true ∧ s.sess = true ∧
        flushPhase (loadFrame frame s) = .next s') := by
  cases argsOk with
  | false => rw [acceptCommand_badArgs] at h; cases h; exact .inl ⟨rfl, rfl⟩
  | true =>
    cases hs : s.sess with
    | false => rw [acceptCommand_closed hs] at h; cases h; exact .inr (.inl ⟨rfl, rfl, rfl⟩)
    | true => rw [acceptCommand_open hs] at h; exact .inr (.inr ⟨rfl, rfl, h⟩)

/-- The three commands are one shape: their argument check is well-formedness, their frame is the one they encode to. -/
theorem exec_command {i : Instr} {f : List Byte} (hf : encodeFrame i = some f) :
    ∃ sent resp accum, ∀ s,
      exec i s = operate i (acceptCommand i.wf f) (resumeCommand sent resp accum) s := by
  cases i <;> simp [encodeFrame] at hf <;> subst hf
  · exact ⟨_, _, _, fun s => rfl⟩
  · exact ⟨_, _, _, fun s => rfl⟩
  · exact ⟨_, _, _, fun s => rfl⟩

/-- The three pseudo-operations are one shape. -/
theorem exec_helper (op : HelperOp) (reg bit : Word) (s : State) : exec (op.instr reg bit) s = runHelper op reg bit s := by
  cases op <;> rfl

/-! ## REG_READ's Read -/

/-- An over-long chunk is LINK_CONTRACT, with or without a pulse during the Read (R38, R87). -/
theorem readPhase_overlong {n : Nat} {got : List Byte → Answer} {s : State} {c : List Byte}
    (ha : s.readAnswer n = .chunk c) (hl : n < c.length) :
    readPhase n got s = .next (raiseFault .linkContract (linkRead n s)) := by
  simp [readPhase, ha, hl]

/-- A pulse during a Read that keeps its contract: the event stands, and its answer is discarded (R93). -/
theorem readPhase_torn {n : Nat} {got : List Byte → Answer} {s : State} (ht : s.torn = true)
    (hb : ∀ c, s.readAnswer n = .chunk c → c.length ≤ n) : readPhase n got s = .next (linkRead n s) := by
  unfold readPhase
  split
  · exact afterPrimitive_torn (by simpa)
  · rw [if_neg (Nat.not_lt.mpr (hb _ ‹_›)), afterPrimitive_torn (by simpa)]

/-- No pulse during a Read: its answer is used. -/
theorem readPhase_use {n : Nat} {got : List Byte → Answer} {s : State} (ht : s.torn = false) :
    readPhase n got s =
      match s.readAnswer n with
      | .disconnected => .next (ioError (linkRead n s))
      | .chunk c => if n < c.length then .next (raiseFault .linkContract (linkRead n s)) else got c := by
  have hu : ∀ use, afterPrimitive (linkRead n s) use = use := fun _ => afterPrimitive_use (by simpa)
  unfold readPhase
  cases s.readAnswer n <;> simp [hu]

/-- Everything a command's Read can lead to (R87); the first case is a pulse during it (R93). -/
theorem readPhase_cases {n : Nat} {got : List Byte → Answer} {s s' : State} (h : readPhase n got s = .next s') :
    (s.torn = true ∧ (∀ c, s.readAnswer n = .chunk c → c.length ≤ n) ∧ s' = linkRead n s) ∨
      (s.readAnswer n = .disconnected ∧ s' = ioError (linkRead n s)) ∨
      (∃ c, s.readAnswer n = .chunk c ∧ n < c.length ∧ s' = raiseFault .linkContract (linkRead n s)) ∨
      (∃ c, s.readAnswer n = .chunk c ∧ c.length ≤ n ∧ got c = .next s') := by
  cases ha : s.readAnswer n with
  | disconnected =>
    simp only [readPhase, ha] at h
    rcases afterPrimitive_cases h with ⟨ht, rfl⟩ | ⟨_, h⟩
    · exact .inl ⟨by simpa using ht, by simp, rfl⟩
    · cases h; exact .inr (.inl ⟨rfl, rfl⟩)
  | chunk c =>
    by_cases hl : n < c.length
    · rw [readPhase_overlong ha hl] at h
      cases h
      exact .inr (.inr (.inl ⟨c, rfl, hl, rfl⟩))
    · simp only [readPhase, ha, hl, if_false] at h
      rcases afterPrimitive_cases h with ⟨ht, rfl⟩ | ⟨_, h⟩
      · exact .inl ⟨by simpa using ht, fun d hd => by cases hd; omega, rfl⟩
      · exact .inr (.inr (.inr ⟨c, rfl, by omega, h⟩))

/-- What the Read of a REG_READ answers when no pulse arrives during it (R100). -/
theorem readResponse_use {s : State} (ht : s.torn = false) :
    readResponse s =
      match s.readAnswer 1 with
      | .disconnected => .next (ioError (linkRead 1 s))
      | .chunk [] => .next (respond { status := .responseTimeout } (linkRead 1 s))
      | .chunk [v] => .next (respond { status := .ok, value := some v } (linkRead 1 s))
      | .chunk (_ :: _ :: _) => .next (raiseFault .linkContract (linkRead 1 s)) := by
  rw [readResponse, readPhase_use ht]
  rcases s.readAnswer 1 with (_ | ⟨v, _ | ⟨w, tl⟩⟩) | _ <;> simp [finish_eq]

theorem readResponse_torn {s : State} (ht : s.torn = true) (hb : ∀ c, s.readAnswer 1 = .chunk c → c.length ≤ 1) :
    readResponse s = .next (linkRead 1 s) :=
  readPhase_torn ht hb

/-- Everything the Read of a REG_READ can answer (R100); the first case is a pulse during the step (R93). -/
theorem readResponse_cases {s s' : State} (h : readResponse s = .next s') :
    (s.torn = true ∧ (∀ c, s.readAnswer 1 = .chunk c → c.length ≤ 1) ∧ s' = linkRead 1 s) ∨
      (s.readAnswer 1 = .disconnected ∧ s' = ioError (linkRead 1 s)) ∨
      (s.readAnswer 1 = .chunk [] ∧ s' = respond { status := .responseTimeout } (linkRead 1 s)) ∨
      (∃ v, s.readAnswer 1 = .chunk [v] ∧ s' = respond { status := .ok, value := some v } (linkRead 1 s)) ∨
      (∃ c, s.readAnswer 1 = .chunk c ∧ 1 < c.length ∧ s' = raiseFault .linkContract (linkRead 1 s)) := by
  rcases readPhase_cases h with h | h | h | ⟨c, ha, hl, h⟩
  · exact .inl h
  · exact .inr (.inl h)
  · exact .inr (.inr (.inr (.inr h)))
  · match c, hl with
    | [], _ => cases h; exact .inr (.inr (.inl ⟨ha, rfl⟩))
    | [v], _ => cases h; exact .inr (.inr (.inr (.inl ⟨v, ha, rfl⟩)))

/-! ## CAPTURE -/

/-- WIDTH and HEIGHT can be read exactly in a session that has them (R28, R42). -/
theorem frameSpec_some_iff {s : State} {w h : Word} :
    s.frameSpec = some (w, h) ↔ s.sess = true ∧ s.width = some w ∧ s.height = some h := by
  unfold State.frameSpec
  cases s.sess <;> cases s.width <;> cases s.height <;> simp

theorem frameSpec_closed {s : State} (h : s.sess = false) : s.frameSpec = none := by
  simp [State.frameSpec, h]

theorem byteSize_some_iff {s : State} {n : Nat} :
    s.byteSize = some n ↔ ∃ w h, s.width = some w ∧ s.height = some h ∧ byteSizeOf w h = n := by
  unfold State.byteSize
  cases s.width <;> cases s.height <;> simp

/-- Everything the end of a completed CAPTURE can answer (R105). -/
theorem completeFrame_cases {s s' : State} (h : completeFrame s = .next s') :
    (∃ w hh img, s.sess = true ∧ s.width = some w ∧ s.height = some hh ∧
        frameDecode w.toNat hh.toNat s.buf = some img ∧
        s' = respond { status := .ok, image := some img } (clearWork s)) ∨
      s' = raiseFault .unreachableFsm s := by
  unfold completeFrame at h
  split at h
  · rename_i hfs
    obtain ⟨h1, h2, h3⟩ := frameSpec_some_iff.mp hfs
    split at h
    · cases h; exact .inl ⟨_, _, _, h1, h2, h3, ‹_›, rfl⟩
    · cases h; exact .inr rfl
  · cases h; exact .inr rfl

/-- A completed frame that is wholly written ends in OK with its image (R105, R109). -/
theorem completeFrame_some {s : State} {w h : Word} {img : Image} (hs : s.sess = true) (hw : s.width = some w)
    (hh : s.height = some h) (hd : frameDecode w.toNat h.toNat s.buf = some img) :
    completeFrame s = .next (respond { status := .ok, image := some img } (clearWork s)) := by
  simp [completeFrame, frameSpec_some_iff.mpr ⟨hs, hw, hh⟩, hd, finish_eq]

/-- What one Read of the accumulation loop answers when no pulse arrives during it (R105). -/
theorem accumulate_use {size : Nat} {s : State} (ht : s.torn = false) :
    accumulate size s =
      match s.readAnswer (size - s.len.toNat) with
      | .disconnected => .next (ioError (linkRead (size - s.len.toNat) s))
      | .chunk c =>
        if size - s.len.toNat < c.length then .next (raiseFault .linkContract (linkRead (size - s.len.toNat) s))
        else if c = [] then incomplete size (linkRead (size - s.len.toNat) s)
        else afterAppend size (appendChunk c (linkRead (size - s.len.toNat) s)) :=
  readPhase_use ht

theorem accumulate_torn {size : Nat} {s : State} (ht : s.torn = true)
    (hb : ∀ c, s.readAnswer (size - s.len.toNat) = .chunk c → c.length ≤ size - s.len.toNat) :
    accumulate size s = .next (linkRead (size - s.len.toNat) s) :=
  readPhase_torn ht hb

/-- Everything one Read of the accumulation loop can answer (R105); the first case is a pulse during the step (R93). -/
theorem accumulate_cases {size : Nat} {s s' : State} (h : accumulate size s = .next s') :
    (s.torn = true ∧ (∀ c, s.readAnswer (size - s.len.toNat) = .chunk c → c.length ≤ size - s.len.toNat) ∧
        s' = linkRead (size - s.len.toNat) s) ∨
      (s.readAnswer (size - s.len.toNat) = .disconnected ∧ s' = ioError (linkRead (size - s.len.toNat) s)) ∨
      (∃ c, s.readAnswer (size - s.len.toNat) = .chunk c ∧ size - s.len.toNat < c.length ∧
        s' = raiseFault .linkContract (linkRead (size - s.len.toNat) s)) ∨
      (s.readAnswer (size - s.len.toNat) = .chunk [] ∧
        incomplete size (linkRead (size - s.len.toNat) s) = .next s') ∨
      (∃ c, s.readAnswer (size - s.len.toNat) = .chunk c ∧ c ≠ [] ∧ c.length ≤ size - s.len.toNat ∧
        afterAppend size (appendChunk c (linkRead (size - s.len.toNat) s)) = .next s') := by
  rcases readPhase_cases h with h | h | h | ⟨c, ha, hl, h⟩
  · exact .inl h
  · exact .inr (.inl h)
  · exact .inr (.inr (.inl h))
  · split at h
    · subst_vars; exact .inr (.inr (.inr (.inl ⟨ha, h⟩)))
    · exact .inr (.inr (.inr (.inr ⟨c, ha, ‹_›, hl, h⟩)))

/-- LEN does not wrap while it stays below 2^32 (R108). -/
theorem len_add {len : Word} {k : Nat} (h : len.toNat + k < 2 ^ 32) : (len + BitVec.ofNat 32 k).toNat = len.toNat + k := by
  rw [BitVec.toNat_add, BitVec.toNat_ofNat, Nat.mod_eq_of_lt (show k < 2 ^ 32 by omega), Nat.mod_eq_of_lt h]

theorem afterAppend_eq (size : Nat) (s : State) :
    afterAppend size s = if s.len.toNat < size then .next s else completeFrame s := rfl

theorem accumPhase_some {s : State} {size : Nat} (hs : s.sess = true) (h : s.byteSize = some size) :
    accumPhase s = if s.len.toNat < size then accumulate size s else completeFrame s := by
  obtain ⟨w, hh, hw, hh', rfl⟩ := byteSize_some_iff.mp h
  simp [accumPhase, frameSpec_some_iff.mpr ⟨hs, hw, hh'⟩]

/-- With no session, or with WIDTH or HEIGHT unwritten, the loop reads what holds no value (R42). -/
theorem accumPhase_none {s : State} (h : s.sess = false ∨ s.byteSize = none) :
    accumPhase s = .next (raiseFault .unreachableFsm s) := by
  have : s.frameSpec = none := by
    rcases h with h | h
    · exact frameSpec_closed h
    · cases hf : s.frameSpec with
      | none => rfl
      | some p =>
        obtain ⟨_, h2, h3⟩ := frameSpec_some_iff.mp hf
        simp [State.byteSize, h2, h3] at h
  simp [accumPhase, this, unreachable_eq]

/-! ## OPEN -/

/-- Everything OPEN's step can answer (R90). -/
theorem acceptOpen_cases {w h : Word} {baud timeout : Option Word} {s s' : State}
    (hs : acceptOpen w h baud timeout s = .next s') :
    (supported s.params w h = false ∧ s' = respond { status := .invalidArgument } s) ∨
      (supported s.params w h = true ∧ s.sess = true ∧ s' = respond { status := .invalidState } s) ∨
      ∃ b t, b = baud.getD s.params.baudDefault ∧ t = timeout.getD s.params.timeoutDefault ∧
        supported s.params w h = true ∧ s.sess = false ∧
        ((s.openAnswer = .unavailable ∧ s' = respond { status := .connectionError } (linkOpen b t s)) ∨
          (s.openAnswer = .ok ∧ s' = respond { status := .ok } (latchSession w h b t (linkOpen b t s)))) := by
  unfold acceptOpen at hs
  split at hs
  · cases hs; exact .inl ⟨‹_›, rfl⟩
  · rename_i hsup
    have hsup : supported s.params w h = true := by simpa using hsup
    split at hs
    · cases hs; exact .inr (.inl ⟨hsup, ‹_›, rfl⟩)
    · rename_i hsess
      refine .inr (.inr ⟨_, _, rfl, rfl, hsup, by simpa using hsess, ?_⟩)
      unfold openLink at hs
      split at hs <;> cases hs
      · exact .inl ⟨‹_›, rfl⟩
      · exact .inr ⟨‹_›, rfl⟩

/-! ## The step -/

theorem step_reset {s : State} (h : s.signal = .reset) : step s = .next (resetSce s.passSignal) := by
  simp [step, advance, h]

theorem step_fault {s : State} {f : Fault} (hf : s.fault = some f) (h : s.signal ≠ .reset) : step s = .fault f := by
  unfold step advance
  cases hs : s.signal <;> simp_all

theorem step_teardown {s : State} (hf : s.fault = none) (h : s.signal = .teardown) :
    step s = .next (teardown s.passSignal) := by
  simp [step, advance, h, hf]

theorem step_quiet {s : State} (hf : s.fault = none) (h : s.signal = .quiet) : step s = passed (proceed s) := by
  simp [step, advance, h, hf]

theorem step_torn {s : State} (hf : s.fault = none) (h : s.signal = .teardownInStep) : step s = tearAfter (proceed s) := by
  simp [step, advance, h, hf]

@[simp] theorem passed_next (t : State) : passed (.next t) = .next t.passSignal := rfl

theorem passed_cases {a : Answer} {s' : State} (h : passed a = .next s') : ∃ t, a = .next t ∧ s' = t.passSignal := by
  cases a with
  | next t => cases h; exact ⟨t, rfl, rfl⟩
  | fault => cases h
  | refused => cases h

theorem tearAfter_cases {a : Answer} {s' : State} (h : tearAfter a = .next s') :
    ∃ t, a = .next t ∧ ((t.fault = none ∧ s' = teardown t.passSignal) ∨ (t.fault ≠ none ∧ s' = t.passSignal)) := by
  cases a with
  | next t =>
    unfold tearAfter at h
    cases ht : t.fault with
    | none => simp only [ht] at h; cases h; exact ⟨t, rfl, .inl ⟨ht, rfl⟩⟩
    | some f => simp only [ht] at h; cases h; exact ⟨t, rfl, .inr ⟨by simp [ht], rfl⟩⟩
  | fault => cases h
  | refused => cases h

/-- Everything a step can answer, by the signal. -/
theorem step_cases {s s' : State} (h : step s = .next s') :
    (s.signal = .reset ∧ s' = resetSce s.passSignal) ∨
      (s.fault = none ∧ s.signal = .teardown ∧ s' = teardown s.passSignal) ∨
      (s.fault = none ∧ s.signal = .quiet ∧ ∃ t, proceed s = .next t ∧ s' = t.passSignal) ∨
      (s.fault = none ∧ s.signal = .teardownInStep ∧ ∃ t, proceed s = .next t ∧
        ((t.fault = none ∧ s' = teardown t.passSignal) ∨ (t.fault ≠ none ∧ s' = t.passSignal))) := by
  cases hs : s.signal with
  | reset => rw [step_reset hs] at h; cases h; exact .inl ⟨rfl, rfl⟩
  | teardown =>
    cases hf : s.fault with
    | some f => rw [step_fault hf (by simp [hs])] at h; cases h
    | none => rw [step_teardown hf hs] at h; cases h; exact .inr (.inl ⟨rfl, rfl, rfl⟩)
  | teardownInStep =>
    cases hf : s.fault with
    | some f => rw [step_fault hf (by simp [hs])] at h; cases h
    | none => rw [step_torn hf hs] at h; exact .inr (.inr (.inr ⟨rfl, rfl, tearAfter_cases h⟩))
  | quiet =>
    cases hf : s.fault with
    | some f => rw [step_fault hf (by simp [hs])] at h; cases h
    | none => rw [step_quiet hf hs] at h; exact .inr (.inr (.inl ⟨rfl, rfl, passed_cases h⟩))

/-- READY, with no pseudo-operation in progress: the host's next line is performed (R89). -/
theorem proceed_offer {s : State} {line : HostLine} {rest : List HostLine} {i : Instr} (hi : s.fsm = .idle)
    (hh : s.helper = none) (hq : s.hostReq = line :: rest) (hd : decodeLine line = .ok i) :
    proceed s = exec i (leaveLines rest s) := by
  simp [proceed, hi, hostTurn, hh, offerNext, hq, hd]

/-- READY, with a pseudo-operation in progress: the host goes on with it (R131). -/
theorem proceed_helper {s : State} {h : Helper} (hi : s.fsm = .idle) (hh : s.helper = some h) :
    proceed s = exec (h.op.instr h.reg h.bit) s := by
  simp [proceed, hi, hostTurn, hh]

/-- An operation in flight goes on (R25). -/
theorem proceed_flight {s : State} {i : Instr} (hi : s.fsm ≠ .idle) (h6 : s.fsm ≠ .reserved6)
    (h7 : s.fsm ≠ .reserved7) (hc : s.cur = some i) : proceed s = exec i s := by
  unfold proceed inFlight
  rw [if_neg hi, hc]
  cases h : s.fsm <;> simp_all

/-- A step without signal is one step of an operation, or the host has no line to offer. -/
theorem proceed_cases {s s' : State} (h : proceed s = .next s') :
    (s.fsm = .idle ∧ ∃ x, s.helper = some x ∧ exec (x.op.instr x.reg x.bit) s = .next s') ∨
      (s.fsm = .idle ∧ s.helper = none ∧ s.hostReq = [] ∧ s' = s) ∨
      (s.fsm = .idle ∧ s.helper = none ∧
        ∃ line rest i, s.hostReq = line :: rest ∧ decodeLine line = .ok i ∧
          exec i (leaveLines rest s) = .next s') ∨
      (s.fsm ≠ .idle ∧ ∃ i, s.cur = some i ∧ exec i s = .next s') ∨
      (s.fsm ≠ .idle ∧ (s.cur = none ∨ s.fsm = .reserved6 ∨ s.fsm = .reserved7) ∧
        s' = raiseFault .unreachableFsm s) := by
  unfold proceed at h
  split at h
  · rename_i hi
    unfold hostTurn at h
    split at h
    · exact .inl ⟨hi, _, ‹_›, h⟩
    · unfold offerNext at h
      split at h
      · cases h; exact .inr (.inl ⟨hi, ‹_›, ‹_›, rfl⟩)
      · split at h
        · exact .inr (.inr (.inl ⟨hi, ‹_›, _, _, _, ‹_›, ‹_›, h⟩))
        · cases h
  · rename_i hi
    refine .inr (.inr (.inr ?_))
    unfold inFlight at h
    split at h
    · cases h; exact .inr ⟨hi, .inr (.inl ‹_›), rfl⟩
    · cases h; exact .inr ⟨hi, .inr (.inr ‹_›), rfl⟩
    · exact .inl ⟨hi, _, ‹_›, h⟩
    · cases h; exact .inr ⟨hi, .inl ‹_›, rfl⟩

/-! ## The pseudo-operations -/

/-- Everything one action of the host in a pseudo-operation can answer. -/
theorem runHelper_cases {op : HelperOp} {reg bit : Word} {s s' : State} (h : runHelper op reg bit s = .next s') :
    s.fault = none ∧
      (s' = s ∨ (s.fsm = .idle ∧ s.helper = none ∧ startHelper op reg bit s = .next s') ∨
        (s.fsm = .idle ∧ ∃ x, s.helper = some x ∧ x.op = op ∧ x.reg = reg ∧ x.bit = bit ∧
          continueHelper x s = .next s')) := by
  unfold runHelper at h
  split at h
  · cases h
  · rename_i hf
    refine ⟨hf, ?_⟩
    split at h
    · cases h; exact .inl rfl
    · rename_i hi
      have hi : s.fsm = .idle := by simpa using hi
      split at h
      · exact .inr (.inl ⟨hi, ‹_›, h⟩)
      · split at h
        · rename_i hx; exact .inr (.inr ⟨hi, _, ‹_›, hx.1, hx.2.1, hx.2.2, h⟩)
        · cases h; exact .inl rfl

end Sys2Proof.Machine
end

