-- ==== Sys2Proof/Laws/PerInstr.lean ====
section
/-! SUPPORT. The per-instruction family LineRoundTrip: the line an operation is encoded as decodes to that operation, for
every operand the constructor can hold (30_encoding.md R72, R80, R81). -/

namespace Sys2Proof.Laws

/-- Decoding the line that `encode` writes gives the operation back (R72, R81; for PIX_CONV the sample line of log 6). -/
def LineRoundTrip.Statement : Instr → Prop := fun i => decodeLine (encode i) = .ok i

theorem LineRoundTrip.openSession (width height : Word) (baud timeout : Option Word) :
    LineRoundTrip.Statement (.openSession width height baud timeout) := rfl

theorem LineRoundTrip.close : LineRoundTrip.Statement .close := rfl

theorem LineRoundTrip.regWrite (reg value : Word) : LineRoundTrip.Statement (.regWrite reg value) := rfl

theorem LineRoundTrip.regRead (reg : Word) : LineRoundTrip.Statement (.regRead reg) := rfl

theorem LineRoundTrip.capture : LineRoundTrip.Statement .capture := rfl

theorem LineRoundTrip.pixConv (v : Sample) : LineRoundTrip.Statement (.pixConv v) := rfl

theorem LineRoundTrip.setBit (reg bit : Word) : LineRoundTrip.Statement (.setBit reg bit) := rfl

theorem LineRoundTrip.clearBit (reg bit : Word) : LineRoundTrip.Statement (.clearBit reg bit) := rfl

theorem LineRoundTrip.getBit (reg bit : Word) : LineRoundTrip.Statement (.getBit reg bit) := rfl

end Sys2Proof.Laws
end

