-- ==== Sys2Proof/Tests/Slice0.lean ====
section
/-! SUPPORT. Tests of the model against the vectors of spec/95_test_vectors.md and the words of spec/30_encoding.md, each
named after its source, and one witness for the hypotheses of each statement. -/

namespace Sys2Proof.Tests

open Sys2Proof Sys2Proof.Machine Sys2Proof.Safety

/-! ## Small states -/

/-- The next state of an answer, if it has one. -/
def after : Answer → Option State
  | .next t => some t
  | .fault _ => none
  | .refused _ => none

/-- An open session of 160 x 120 with the default rates. -/
def openState : State :=
  { State.reset with sess := true, width := some 160, height := some 120, baud := some 1500000, tRead := some 1000 }

/-- PRESETS of the test configuration TC2 (95_test_vectors.md). -/
def tinyParams : Params := { Params.default with presets := Params.default.presets ++ [(2, 2), (2, 1)] }

/-- An open session of 2 x 2, BYTE_SIZE = 8. -/
def tinyState : State := { openState with params := tinyParams, width := some 2, height := some 2 }

/-- `openState` in TX with this command latched. -/
def sending (i : Instr) (f : List Byte) : State :=
  { openState with fsm := .tx, cur := some i, txf := some f, hist := [.flush .ok] }

/-- `openState` in RESP for REG_READ 0x0A. -/
def reading : State := { openState with fsm := .resp, cur := some (.regRead 0x0A) }

/-- `tinyState` in ACCUM with the first three bytes of the frame of section 2.5 in BUF. -/
def filling : State :=
  { tinyState with fsm := .accum, cur := some .capture, len := 3, buf := Memory.layout 0 [0xFF, 0xFF, 0x00] }

/-- IMG4 of section 2.5. -/
def img4 : Image :=
  { width := 2, height := 2, pixels := [⟨255, 255, 255⟩, ⟨0, 0, 0⟩, ⟨131, 129, 131⟩, ⟨0, 0, 255⟩] }

/-- A pseudo-operation on register 0x1E, with the last response on `host_rsp`. -/
def helping (op : HelperOp) (bit : Word) (phase : HelperPhase) (r : Response) : State :=
  { openState with helper := some { op := op, reg := 0x1E, bit := bit, phase := phase }, rsp := [r] }

/-! ## Well-formed operations: an ill-formed term for each check -/

theorem test_wf_open_zero_width : (Instr.openSession 0 120 none none).wf = false := by decide
theorem test_wf_open_zero_height : (Instr.openSession 160 0 none none).wf = false := by decide
theorem test_wf_open_too_large : (Instr.openSession 0x10000 0x8000 none none).wf = false := by decide
theorem test_wf_regWrite_reg : (Instr.regWrite 0x100 0).wf = false := by decide
theorem test_wf_regWrite_value : (Instr.regWrite 0 0x100).wf = false := by decide
theorem test_wf_regRead_reg : (Instr.regRead 0x100).wf = false := by decide
theorem test_wf_setBit_reg : (Instr.setBit 0x100 0).wf = false := by decide
theorem test_wf_setBit_bit : (Instr.setBit 0x1E 8).wf = false := by decide
theorem test_wf_clearBit_reg : (Instr.clearBit 0x100 0).wf = false := by decide
theorem test_wf_clearBit_bit : (Instr.clearBit 0x1E 8).wf = false := by decide
theorem test_wf_getBit_reg : (Instr.getBit 0x100 0).wf = false := by decide
theorem test_wf_getBit_bit : (Instr.getBit 0x1E 8).wf = false := by decide
theorem test_wf_accepts_the_bounds :
    (Instr.regWrite 0xFF 0xFF).wf = true ∧ (Instr.setBit 0xFF 7).wf = true ∧
      (Instr.openSession 0xFFFF 0x8000 none none).wf = true := by decide

/-! ## Decoding: words and records written out from 30_encoding.md -/

/-- R66: `10101010 RRRRRRRR VVVVVVVV` with reg 0x12, value 0x80 (V-ENC-3). -/
theorem test_decode_W3 : decodeTableWord 24 0b101010100001001010000000 = some (.regWrite 0x12 0x80) := by decide
/-- R67: `10111011 RRRRRRRR` with reg 0x0A (program P1). -/
theorem test_decode_R2 : decodeTableWord 16 0b1011101100001010 = some (.regRead 0x0A) := by decide
/-- R68: `11001100`. -/
theorem test_decode_C1 : decodeTableWord 8 0b11001100 = some .capture := by decide
/-- R70: `RRRRRGGGGGGBBBBB` with red5 = 16, green6 = 32, blue5 = 16 (W3). -/
theorem test_decode_P16 : decodeTableWord 16 0b1000010000010000 = some (.pixConv 0x8410) := by decide
/-- R72: op = 0 with every other bit zero. -/
theorem test_decode_op_OPEN : decodeTableWord 8 0b000 = some (.openSession 0 0 (some 0) (some 0)) := by decide
/-- R72: op = 1. -/
theorem test_decode_op_CLOSE : decodeTableWord 8 0b001 = some .close := by decide
/-- R78: op = 5, 6 and 7 are reserved. -/
theorem test_decode_op_reserved :
    decodeTableWord 8 5 = none ∧ decodeTableWord 8 6 = none ∧ decodeTableWord 8 7 = none := by decide
/-- R75, R76: another first byte, a short frame and a long one are no command frame. -/
theorem test_decode_rejects_by_name :
    decodeWholeFrame [0xAB] = .error (.reservedFirstByte 0xAB) ∧
      decodeWholeFrame [0xAA, 0x12] = .error (.truncatedFrame 0xAA) ∧
      decodeWholeFrame [0xCC, 0] = .error .trailingBytes ∧ decodeWholeFrame [] = .error .emptyFrame := by decide
/-- R72: program P1's records. -/
theorem test_decode_records_of_P1 :
    decodeLine (.record ⟨0, 0, 0, 160, 120, some 1500000, some 1000⟩) =
        .ok (.openSession 160 120 (some 1500000) (some 1000)) ∧
      decodeLine (.record ⟨2, 0x12, 0x80, 0, 0, none, none⟩) = .ok (.regWrite 0x12 0x80) ∧
      decodeLine (.record ⟨3, 0x0A, 0, 0, 0, none, none⟩) = .ok (.regRead 0x0A) ∧
      decodeLine (.record ⟨4, 0, 0, 0, 0, none, none⟩) = .ok .capture := by decide
/-- R81: the pseudo-operations of program P2. -/
theorem test_decode_pseudo :
    decodeLine (.pseudo .set 0x1E 5) = .ok (.setBit 0x1E 5) ∧
      decodeLine (.pseudo .clear 0x1E 5) = .ok (.clearBit 0x1E 5) ∧
      decodeLine (.pseudo .get 0x1E 5) = .ok (.getBit 0x1E 5) := by decide
/-- R80: lines of programs P1 and P2, and V-SES-5's OPEN. -/
theorem test_assembler_lines :
    parseLine "REG_WRITE 0x12, 0x80        ; wire: AA 12 80".toList = .ok (some (encode (.regWrite 0x12 0x80))) ∧
      parseLine "SET_BIT   0x1E, 5".toList = .ok (some (encode (.setBit 0x1E 5))) ∧
      parseLine "OPEN 176, 144, baud=115200".toList = .ok (some (encode (.openSession 176 144 (some 115200) none))) ∧
      parseLine "; TEARDOWN pulse".toList = .ok none ∧ parseLine "JUMP 1".toList = .error .unknownOperation := by decide

/-! ## One step of each operation -/

/-- V-SES-1. -/
theorem test_OPEN_V_SES_1 :
    after (exec (.openSession 160 120 none none) { State.reset with link := [.done []] }) =
      some { openState with hist := [.opening 1500000 1000 .ok], rsp := [{ status := .ok }] } := by decide
/-- V-SES-5. -/
theorem test_OPEN_V_SES_5 :
    after (exec (.openSession 176 144 (some 115200) none) { State.reset with link := [.failed] }) =
      some { State.reset with
        hist := [.opening 115200 1000 .unavailable], rsp := [{ status := .connectionError }] } := by decide
/-- V-SES-7. -/
theorem test_CLOSE_V_SES_7 :
    after (exec .close openState) =
      some { openState with sess := false, hist := [.closing], rsp := [{ status := .ok }] } := by decide
/-- V-SES-6. -/
theorem test_CLOSE_V_SES_6 :
    after (exec .close State.reset) = some { State.reset with rsp := [{ status := .ok }] } := by decide
/-- V-REG-1, its Write. -/
theorem test_REG_WRITE_V_REG_1 :
    (after (exec (.regWrite 0x12 0x80)
      { sending (.regWrite 0x12 0x80) [0xAA, 0x12, 0x80] with link := [.done []] })).map (fun t => (t.hist, t.rsp, t.fsm)) =
      some ([.flush .ok, .write [0xAA, 0x12, 0x80] .ok], [{ status := .ok }], .idle) := by decide
/-- V-REG-2. -/
theorem test_REG_WRITE_V_REG_2 :
    (after (exec (.regWrite 0x12 0x80) { openState with link := [.failed] })).map (fun t => (t.hist, t.rsp, t.sess)) =
      some ([.flush .disconnected, .closing], [{ status := .ioError }], false) := by decide
/-- V-REG-4, its Read. -/
theorem test_REG_READ_V_REG_4 :
    (after (exec (.regRead 0x0A) { reading with link := [.done [0x76]] })).map (fun t => (t.hist, t.rsp, t.sess)) =
      some ([.read 1 (.chunk [0x76])], [{ status := .ok, value := some 0x76 }], true) := by decide
/-- V-REG-10, its Read. -/
theorem test_REG_READ_V_REG_10 :
    (after (exec (.regRead 0x0A) { reading with link := [.done [0x76, 0x77]] })).map (fun t => (t.fault, t.rsp, t.sess)) =
      some (some .linkContract, [], true) := by decide
/-- V-CAP-3, its last Read. -/
theorem test_CAPTURE_V_CAP_3 :
    (after (exec .capture { filling with link := [.done [0x00, 0x10, 0x84, 0x1F, 0x00]] })).map
        (fun t => (t.rsp, t.len, t.buf)) =
      some ([{ status := .ok, image := some img4 }], 0, []) := by decide
/-- V-CAP-4, its last Read. -/
theorem test_CAPTURE_V_CAP_4 :
    (after (exec .capture { filling with link := [.done []] })).map (fun t => (t.rsp, t.len, t.buf, t.sess)) =
      some ([{ status := .incompleteFrame, received := some 3, expected := some 8 }], 0, [], true) := by decide
/-- V-PIX-3. -/
theorem test_PIX_CONV_V_PIX_3 : pixelOf 0x8410 = ⟨131, 129, 131⟩ := by decide
/-- V-PIX-7: the sample of the bytes 0xF8, 0x00. -/
theorem test_PIX_CONV_V_PIX_7 : pixelOf (sampleOf 0xF8 0x00) = ⟨0, 28, 197⟩ := by decide
/-- V-BIT-1, its REG_WRITE. -/
theorem test_SET_BIT_V_BIT_1 :
    (after (exec (.setBit 0x1E 7)
      { helping .set 7 .awaitRead { status := .ok, value := some 0x00 } with link := [.done []] })).map (·.txf) =
      some (some [0xAA, 0x1E, 0x80]) := by decide
/-- V-BIT-9, its result. -/
theorem test_SET_BIT_V_BIT_9 :
    (after (exec (.setBit 0x1E 3) (helping .set 3 .awaitRead { status := .responseTimeout }))).map
        (fun t => (t.results, t.hist)) = some ([{ status := .responseTimeout }], []) := by decide
/-- V-BIT-3, its REG_WRITE. -/
theorem test_CLEAR_BIT_V_BIT_3 :
    (after (exec (.clearBit 0x1E 0)
      { helping .clear 0 .awaitRead { status := .ok, value := some 0xFF } with link := [.done []] })).map (·.txf) =
      some (some [0xAA, 0x1E, 0xFE]) := by decide
/-- V-BIT-4, its REG_WRITE: the bit is clear already, and the write is still sent. -/
theorem test_CLEAR_BIT_V_BIT_4 :
    (after (exec (.clearBit 0x1E 7)
      { helping .clear 7 .awaitRead { status := .ok, value := some 0x7F } with link := [.done []] })).map (·.txf) =
      some (some [0xAA, 0x1E, 0x7F]) := by decide
/-- V-BIT-5, its result. -/
theorem test_GET_BIT_V_BIT_5 :
    (after (exec (.getBit 0x1E 7) (helping .get 7 .awaitRead { status := .ok, value := some 0x80 }))).map (·.results) =
      some [{ status := .ok, bit := some 1 }] := by decide
/-- V-BIT-8. -/
theorem test_GET_BIT_V_BIT_8 :
    (after (exec (.getBit 0x100 0) openState)).map (fun t => (t.results, t.hist)) =
      some ([{ status := .invalidArgument }], []) := by decide
/-- V-CAP-10: the TEARDOWN after a Read. -/
theorem test_TEARDOWN_V_CAP_10 :
    (after (step { filling with signals := [.teardown] })).map (fun t => (t.rsp, t.hist, t.sess, t.len)) =
      some ([{ status := .aborted }], [.closing], false, 0) := by decide
/-- R93: a pulse while the Read of a REG_READ is in progress; the byte it returns is discarded. -/
theorem test_TEARDOWN_during_a_Read :
    (after (step { reading with link := [.done [0x76]], signals := [.teardownInStep] })).map
        (fun t => (t.rsp, t.hist, t.sess)) =
      some ([{ status := .aborted }], [.read 1 (.chunk [0x76]), .closing], false) := by decide
/-- R87, D12: an over-long chunk is LINK_CONTRACT although a pulse arrives during the Read; no response, no Close. -/
theorem test_TEARDOWN_during_an_overlong_Read :
    (after (step { reading with link := [.done [0x76, 0x77]], signals := [.teardownInStep] })).map
        (fun t => (t.fault, t.rsp, t.hist, t.sess)) =
      some (some .linkContract, [], [.read 1 (.chunk [0x76, 0x77])], true) := by decide
/-- R93, R136: a pulse while OPEN's step is under way; OPEN ends with its own response, and its session is closed. -/
theorem test_TEARDOWN_during_OPEN :
    (after (step { State.reset with
      link := [.done []], hostReq := [encode (.openSession 160 120 none none)], signals := [.teardownInStep] })).map
        (fun t => (t.rsp, t.hist, t.sess)) =
      some ([{ status := .ok }], [.opening 1500000 1000 .ok, .closing], false) := by decide
/-- R42: a CAPTURE in its loop with no session reads WIDTH and HEIGHT that CLOSE has left. -/
theorem test_CAPTURE_without_a_session :
    (after (exec .capture { filling with sess := false })).map (fun t => (t.fault, t.hist, t.rsp)) =
      some (some .unreachableFsm, [], []) := by decide
/-- An opcode-table word runs as the first operation after reset (V-SES-9). -/
theorem test_step_of_a_table_word :
    (after (step (State.reset.withFetchWord 8 0xCC))).map (·.rsp) = some [{ status := .invalidState }] := by decide

/-! ## Witnesses: a state and operands that meet every hypothesis of a statement -/

theorem witness_CommandFrameDecodesToItsCommand :
    (Instr.regWrite 0xFF 0xFF).wf = true ∧ encodeFrame (.regWrite 0xFF 0xFF) = some [0xAA, 0xFF, 0xFF] ∧
      (Instr.regRead 0).wf = true ∧ encodeFrame (.regRead 0) = some [0xBB, 0] ∧
      Instr.capture.wf = true ∧ encodeFrame .capture = some [0xCC] := by decide

theorem witness_DecodedFrameIsTheCommandsOwn :
    decodeFrame [0xAA, 0xFF, 0x00, 0xCC] = .ok (.regWrite 0xFF 0, [0xCC]) ∧
      decodeFrame [0xBB, 0xFF] = .ok (.regRead 0xFF, []) ∧ decodeFrame [0xCC] = .ok (.capture, []) := by decide

theorem witness_FrameWordOfACommandDecodes :
    (Instr.regWrite 0 0xFF).wf = true ∧ encodeFrame (.regWrite 0 0xFF) = some [0xAA, 0x00, 0xFF] := by decide

theorem witness_FrameEncodersAreInjective :
    inRange8 0 = true ∧ inRange8 0xFF = true ∧ encWrite 0xFF 0 = encWrite 0xFF 0 ∧
      encRead 0xFF = encRead 0xFF := by decide

/-- The three reserved values of op. -/
theorem witness_ReservedRequestIsRefused :
    ∀ op : BitVec 3, 5 ≤ op.toNat →
      let s := { State.reset with hostReq := [.record (bareRequest op)] }
      s.ready = true ∧ s.signal = .quiet ∧ s.helper = none ∧ s.hostReq = .record (bareRequest op) :: [] ∧
        5 ≤ (bareRequest op).op.toNat := by decide

theorem witness_StepRunsTheOfferedOperation :
    let s := { openState with hostReq := [encode .capture] }
    let u := { s with signals := [.teardownInStep] }
    s.ready = true ∧ s.signal = .quiet ∧ s.helper = none ∧ s.hostReq = encode .capture :: [] ∧
      decodeLine (encode .capture) = .ok .capture ∧ u.ready = true ∧ u.signal = .teardownInStep ∧ u.helper = none ∧
      u.hostReq = encode .capture :: [] := by decide

theorem witness_StepRunsTheOperationInFlight :
    let u := { filling with signals := [.teardownInStep] }
    filling.fault = none ∧ filling.fsm ≠ .idle ∧ filling.fsm ≠ .reserved6 ∧ filling.fsm ≠ .reserved7 ∧
      filling.cur = some .capture ∧ filling.signal = .quiet ∧ u.fault = none ∧ u.fsm = .accum ∧ u.cur = some .capture ∧
      u.signal = .teardownInStep := by decide

theorem witness_StepContinuesThePseudoOperation :
    let s := helping .set 7 .awaitRead { status := .ok, value := some 0 }
    let u := { s with signals := [.teardownInStep] }
    s.ready = true ∧ s.signal = .quiet ∧ s.helper = some { op := .set, reg := 0x1E, bit := 7, phase := .awaitRead } ∧
      u.ready = true ∧ u.signal = .teardownInStep ∧ u.helper = s.helper := by decide

theorem witness_PlacedTableWordIsTheNextOperation : decodeTableWord 24 0xAA1280 = some (.regWrite 0x12 0x80) := by decide

theorem witness_HostHoldsWhileAnOperationIsInFlight :
    let s := { reading with link := [.done [0x76]] }
    s.fsm ≠ .idle ∧ ∃ t, step s = .next t := ⟨by decide, _, rfl⟩

theorem witness_OpenCompletes :
    let s := { State.reset with link := [.done []] }
    s.ready = true ∧ supported s.params 320 240 = true ∧ s.sess = false ∧ s.openAnswer = .ok := by decide

theorem witness_OpenUnavailableLeavesTheRegisters :
    let s := { State.reset with link := [.failed] }
    s.ready = true ∧ supported s.params 176 144 = true ∧ s.sess = false ∧ s.openAnswer = .unavailable := by decide

/-- V-SES-2, V-SES-3 and V-SES-4. -/
theorem witness_OpenChecksItsArgumentsFirst :
    openState.ready = true ∧ supported openState.params 100 100 = false ∧ supported openState.params 0 0 = false ∧
      supported openState.params 320 240 = true ∧ openState.sess = true := by decide

theorem witness_CloseCompletes :
    openState.ready = true ∧ openState.sess = true ∧ State.reset.ready = true ∧ State.reset.sess = false := by decide

theorem witness_CommandIsAcceptedWithOneFlush :
    let s := { openState with link := [.done []] }
    s.ready = true ∧ s.sess = true ∧ (Instr.regWrite 0xFF 0xFF).wf = true ∧
      encodeFrame (.regWrite 0xFF 0xFF) = some [0xAA, 0xFF, 0xFF] ∧ Instr.capture.wf = true ∧
      encodeFrame .capture = some [0xCC] ∧ s.torn = false ∧ s.lineAnswer = .ok := by decide

/-- The first value out of range, for each operand (V-RNG-2, V-RNG-3). -/
theorem witness_OutOfRangeOperandIsInvalidArgument :
    openState.ready = true ∧ inRange8 0x100 = false ∧ inRange8 0xFFFFFFFF = false ∧ inRange8 0xFF = true := by decide

theorem witness_SessionCheck :
    State.reset.ready = true ∧ encodeFrame .capture = some [0xCC] ∧ Instr.capture.wf = true ∧ State.reset.sess = false ∧
      openState.ready = true ∧ supported openState.params 320 240 = true ∧ openState.sess = true := by decide

theorem witness_RegWriteCompletes :
    let s := { sending (.regWrite 0x12 0x80) [0xAA, 0x12, 0x80] with link := [.done []] }
    s.fault = none ∧ s.fsm = .tx ∧ s.cur = some (.regWrite 0x12 0x80) ∧ s.txf = some [0xAA, 0x12, 0x80] ∧
      s.torn = false ∧ s.lineAnswer = .ok := by decide

theorem witness_RegReadSendsItsFrame :
    let s := { sending (.regRead 0x0A) [0xBB, 0x0A] with link := [.done []] }
    s.fault = none ∧ s.fsm = .tx ∧ s.cur = some (.regRead 0x0A) ∧ s.txf = some [0xBB, 0x0A] ∧
      s.torn = false ∧ s.lineAnswer = .ok := by decide

theorem witness_RegReadReturnsTheByte :
    let s := { reading with link := [.done [0xFF]] }
    s.fault = none ∧ s.fsm = .resp ∧ s.cur = some (.regRead 0x0A) ∧ s.torn = false ∧
      s.readAnswer 1 = .chunk [0xFF] := by decide

theorem witness_RegReadTimesOut :
    let s := { reading with link := [.done []] }
    s.fault = none ∧ s.fsm = .resp ∧ s.cur = some (.regRead 0x0A) ∧ s.torn = false ∧
      s.readAnswer 1 = .chunk [] := by decide

/-- One byte too many: two for REG_READ (V-REG-10), six for a CAPTURE that lacks five; with a pulse and without. -/
theorem witness_OverlongChunkIsALinkContractFault :
    ∀ p : Signal, p = .quiet ∨ p = .teardownInStep →
      let s := { reading with link := [.done [0x76, 0x77]], signals := [p] }
      let u := { filling with link := [.done [0, 0, 0, 0, 0, 0]], signals := [p] }
      (s.fault = none ∧ s.fsm = .resp ∧ s.cur = some (.regRead 0x0A) ∧ s.signal = p ∧
          s.readAnswer 1 = .chunk [0x76, 0x77] ∧ 1 < 2) ∧
        u.fault = none ∧ u.fsm = .accum ∧ u.cur = some .capture ∧ u.sess = true ∧ u.signal = p ∧
        u.byteSize = some 8 ∧ u.len.toNat < 8 ∧
        u.readAnswer (8 - u.len.toNat) = .chunk [0, 0, 0, 0, 0, 0] ∧ 8 - u.len.toNat < 6 := by
  rintro p (rfl | rfl) <;> decide

/-- The four places a Disconnected can come: flush, write, the Read of REG_READ and a Read of CAPTURE. -/
theorem witness_DisconnectClosesTheSession :
    let a := { openState with link := [.failed] }
    let b := { sending (.regWrite 0x12 0x80) [0xAA, 0x12, 0x80] with link := [.failed] }
    let c := { reading with link := [.failed] }
    let d := { filling with link := [.failed] }
    (a.torn = false ∧ a.fault = none ∧ a.sess = true ∧ a.fsm = .idle ∧ Instr.capture.wf = true ∧
      a.lineAnswer = .disconnected) ∧
      (b.torn = false ∧ b.fault = none ∧ b.sess = true ∧ b.fsm = .tx ∧ b.cur = some (.regWrite 0x12 0x80) ∧
        b.txf = some [0xAA, 0x12, 0x80] ∧ b.lineAnswer = .disconnected) ∧
      (c.torn = false ∧ c.fault = none ∧ c.sess = true ∧ c.fsm = .resp ∧ c.cur = some (.regRead 0x0A) ∧
      c.readAnswer 1 = .disconnected) ∧
      d.torn = false ∧ d.fault = none ∧ d.sess = true ∧ d.fsm = .accum ∧ d.cur = some .capture ∧
      d.byteSize = some 8 ∧ d.len.toNat < 8 ∧
      d.readAnswer (8 - d.len.toNat) = .disconnected := by decide

theorem witness_CaptureSendsItsFrame :
    let s := { sending .capture [0xCC] with link := [.done []] }
    s.fault = none ∧ s.fsm = .tx ∧ s.cur = some .capture ∧ s.txf = some [0xCC] ∧ s.torn = false ∧
      s.lineAnswer = .ok := by decide

/-- A chunk one short of the remaining five. -/
theorem witness_CaptureAppendsAShortChunk :
    let s := { filling with link := [.done [0x00, 0x10, 0x84, 0x1F]] }
    s.fault = none ∧ s.fsm = .accum ∧ s.cur = some .capture ∧ s.sess = true ∧ s.torn = false ∧ s.byteSize = some 8 ∧
      8 < 2 ^ 32 ∧
      s.readAnswer (8 - s.len.toNat) = .chunk [0x00, 0x10, 0x84, 0x1F] ∧ s.len.toNat + 4 < 8 := by decide

theorem witness_CaptureReportsAnIncompleteFrame :
    let s := { filling with link := [.done []] }
    s.fault = none ∧ s.fsm = .accum ∧ s.cur = some .capture ∧ s.sess = true ∧ s.torn = false ∧ s.byteSize = some 8 ∧
      s.len.toNat < 8 ∧
      s.readAnswer (8 - s.len.toNat) = .chunk [] := by decide

theorem witness_CaptureCompletesOnTheLastChunk :
    let s := { filling with link := [.done [0x00, 0x10, 0x84, 0x1F, 0x00]] }
    s.fault = none ∧ s.fsm = .accum ∧ s.cur = some .capture ∧ s.sess = true ∧ s.torn = false ∧ s.width = some 2 ∧
      s.height = some 2 ∧
      8 = byteSizeOf 2 2 ∧ (∀ a, a < s.len.toNat → (Memory.read s.buf a).isSome = true) ∧
      s.readAnswer (8 - s.len.toNat) = .chunk [0x00, 0x10, 0x84, 0x1F, 0x00] ∧ s.len.toNat + 5 = 8 := by decide

/-- Program P3's second attempt: a chunk of three bytes, then one of five. -/
theorem witness_CapturedImageDoesNotDependOnChunking :
    let chunks : List (List Byte) := [[0xFF, 0xFF, 0x00], [0x00, 0x10, 0x84, 0x1F, 0x00]]
    let s := { tinyState with hostReq := [encode .capture], link := .done [] :: .done [] :: (chunks.map LinkAnswer.done ++ []) }
    s.ready = true ∧ s.helper = none ∧ s.signals = [] ∧ s.hostReq = encode .capture :: [] ∧ s.sess = true ∧
      s.width = some (2 : Word) ∧ s.height = some (2 : Word) ∧ 0 < byteSizeOf 2 2 ∧ byteSizeOf 2 2 < 2 ^ 32 ∧
      s.link = .done [] :: .done [] :: (chunks.map LinkAnswer.done ++ []) ∧ (∀ c ∈ chunks, c ≠ []) ∧
      chunks.flatten.length = byteSizeOf 2 2 := by decide

/-- A state in the middle of a CAPTURE meets the invariant. -/
theorem filling_coherent : Coherent filling where
  bufCanonical := by decide
  session := fun _ => ⟨2, 2, 1500000, 1000, rfl, rfl, rfl, rfl, by decide⟩
  work := by
    refine ⟨rfl, rfl, rfl, 8, rfl, by decide, fun a => ?_⟩
    show (Memory.read (Memory.layout 0 [0xFF, 0xFF, 0x00]) a).isSome = true ↔ a < 3
    rw [read_layout]
    simp
  helper := fun _ h => by cases h
  responses := fun _ h => by cases h
  reachable := by decide

/-- A state about to write a frame meets the invariant, and its history is framed. -/
theorem sending_coherent : Coherent (sending .capture [0xCC]) ∧ HistoryFramed (sending .capture [0xCC]) :=
  ⟨⟨List.Pairwise.nil, (fun _ => ⟨160, 120, 1500000, 1000, rfl, rfl, rfl, rfl, by decide⟩),
    ⟨rfl, rfl, rfl, .capture, [0xCC], rfl, rfl, rfl, rfl⟩, (fun _ h => by cases h), (fun _ h => by cases h), by decide⟩,
    rfl, fun _ => rfl⟩

theorem witness_CaptureEndsWithinItsMissingBytes :
    Coherent filling ∧ filling.fsm = .accum ∧ filling.byteSize = some 8 := ⟨filling_coherent, rfl, rfl⟩

theorem witness_CaptureOkCarriesAWholeImage :
    let s := { filling with link := [.done [0x00, 0x10, 0x84, 0x1F, 0x00]] }
    Coherent s ∧ ∃ t, exec .capture s = .next t ∧ t.rsp = s.rsp ++ [{ status := .ok, image := some img4 }] :=
  ⟨⟨filling_coherent.bufCanonical, filling_coherent.session, filling_coherent.work, filling_coherent.helper,
    filling_coherent.responses, filling_coherent.reachable⟩, _, rfl, by decide⟩

theorem witness_PixConvCompletes : State.reset.fault = none := by decide

/-- A 1 x 1 frame of which both bytes, or only one, are written. -/
theorem witness_FrameDecodeIsRowMajorAndLittleEndian :
    (∀ a, a < 2 * (1 * 1) → (Memory.read [(0, 0xF8), (1, 0x00)] a).isSome = true) ∧
      Memory.read [(0, 0xF8), (1, 0x00)] (2 * 0) = some 0xF8 ∧ Memory.read [(0, 0xF8), (1, 0x00)] (2 * 0 + 1) = some 0 ∧
      1 < 2 * (1 * 1) ∧ Memory.read [(0, 0xF8)] 1 = none := by decide

/-- The first bit index and the first register out of range (V-BIT-7, V-BIT-8). -/
theorem witness_PseudoOperandCheckSendsNothing :
    openState.ready = true ∧ openState.helper = none ∧ 7 < (8 : Word).toNat ∧ 0xFF < (0x100 : Word).toNat := by decide

theorem witness_PseudoOperationBeginsWithItsRead :
    let s := { openState with link := [.done []] }
    s.ready = true ∧ s.helper = none ∧ s.sess = true ∧ (0xFF : Word).toNat ≤ 0xFF ∧ (7 : Word).toNat ≤ 7 ∧
      s.torn = false ∧ s.lineAnswer = .ok := by decide

theorem witness_SetAndClearWriteTheReadValueBack :
    ∀ op : HelperOp, op = .set ∨ op = .clear →
      let s := { helping op 7 .awaitRead { status := .ok, value := some 0x01 } with link := [.done []] }
      s.ready = true ∧ s.sess = true ∧ (0x1E : Word).toNat ≤ 0xFF ∧ s.torn = false ∧ s.lineAnswer = .ok ∧
        s.rsp.getLast? = some { status := .ok, value := some 0x01 } ∧
        s.helper = some { op := op, reg := 0x1E, bit := 7, phase := .awaitRead } := by
  intro op _; cases op <;> decide

theorem witness_PseudoOperationsComplete :
    let s := helping .set 7 .awaitWrite { status := .ok }
    let u := helping .clear 7 .awaitWrite { status := .ioError }
    let v := helping .get 7 .awaitRead { status := .ok, value := some 0x80 }
    (s.ready = true ∧ s.rsp.getLast? = some { status := .ok } ∧
        s.helper = some { op := .set, reg := 0x1E, bit := 7, phase := .awaitWrite }) ∧
      (u.ready = true ∧ u.rsp.getLast? = some { status := .ioError } ∧
        u.helper = some { op := .clear, reg := 0x1E, bit := 7, phase := .awaitWrite }) ∧
      v.ready = true ∧ v.rsp.getLast? = some { status := .ok, value := some 0x80 } ∧ (7 : Word).toNat ≤ 7 ∧
      v.helper = some { op := .get, reg := 0x1E, bit := 7, phase := .awaitRead } := by decide

theorem witness_PseudoErrorsPropagateUnchanged :
    let s := helping .clear 3 .awaitRead { status := .responseTimeout }
    s.ready = true ∧ s.helper = some { op := .clear, reg := 0x1E, bit := 3, phase := .awaitRead } ∧
      s.rsp.getLast? = some { status := .responseTimeout } ∧ Status.responseTimeout ≠ .ok := by decide

theorem witness_BitOperationsActOnOneBit : (0 : Word).toNat ≤ 7 ∧ (7 : Word).toNat ≤ 7 ∧ 7 < 8 := by decide

theorem witness_SetBitRunsReadThenWrite :
    let s := { openState with
      hostReq := [.pseudo .set 0x1E 5], link := [.done [], .done [], .done [0x01], .done [], .done []] }
    s.ready = true ∧ s.helper = none ∧ s.signals = [] ∧ s.sess = true ∧ (0x1E : Word).toNat ≤ 0xFF ∧
      (5 : Word).toNat ≤ 7 ∧ s.hostReq = .pseudo .set 0x1E 5 :: [] ∧
      s.link = .done [] :: .done [] :: .done [0x01] :: .done [] :: .done [] :: [] := by decide

/-- The pulse at the boundary, during each primitive of an operation in flight (the Reads answered in full), during the flush
of an accepted command, and during the two flushes a pseudo-operation issues. -/
theorem witness_TeardownAbortsAndCloses :
    let s := { filling with signals := [.teardown] }
    let a := { sending .capture [0xCC] with fsm := .flush, signals := [.teardownInStep] }
    let b := { sending .capture [0xCC] with signals := [.teardownInStep] }
    let c := { reading with link := [.done [0x76]], signals := [.teardownInStep] }
    let d := { filling with link := [.done [0, 0, 0, 0, 0]], signals := [.teardownInStep] }
    let e := { openState with signals := [.teardownInStep], hostReq := [encode .capture] }
    let g := { e with hostReq := [.pseudo .get 0xFF 7] }
    let k := { helping .set 7 .awaitRead { status := .ok, value := some 0 } with signals := [.teardownInStep] }
    ((s.fault = none ∧ s.signal = .teardown) ∧ encodeFrame .capture = some [0xCC] ∧
      (a.fault = none ∧ a.signal = .teardownInStep ∧ a.cur = some .capture ∧ a.fsm = .flush) ∧
      (b.fault = none ∧ b.signal = .teardownInStep ∧ b.cur = some .capture ∧ b.fsm = .tx ∧ b.txf = some [0xCC]) ∧
      (c.fault = none ∧ c.signal = .teardownInStep ∧ c.cur = some (.regRead 0x0A) ∧
        encodeFrame (.regRead 0x0A) = some [0xBB, 0x0A] ∧ c.fsm = .resp) ∧
      (d.fault = none ∧ d.signal = .teardownInStep ∧ d.cur = some .capture ∧ d.fsm = .accum ∧ d.sess = true ∧
        d.byteSize = some 8 ∧ d.len.toNat < 8) ∧
      (e.fault = none ∧ e.signal = .teardownInStep ∧ e.fsm = .idle ∧ e.helper = none ∧
        e.hostReq = encode .capture :: [] ∧ decodeLine (encode .capture) = .ok .capture ∧ Instr.capture.wf = true ∧
        e.sess = true) ∧
      (g.fault = none ∧ g.signal = .teardownInStep ∧ g.fsm = .idle ∧ g.helper = none ∧
        g.hostReq = .pseudo .get 0xFF 7 :: [] ∧
        decodeLine (.pseudo .get 0xFF 7) = .ok (HelperOp.get.instr 0xFF 7) ∧ (0xFF : Word).toNat ≤ 0xFF ∧
        (7 : Word).toNat ≤ 7 ∧ g.sess = true) ∧
      k.fault = none ∧ k.signal = .teardownInStep ∧ k.fsm = .idle ∧ HelperOp.set ≠ .get ∧
      k.helper = some { op := .set, reg := 0x1E, bit := 7, phase := .awaitRead } ∧
      k.rsp.getLast? = some { status := .ok, value := some 0 } ∧ (0x1E : Word).toNat ≤ 0xFF ∧ k.sess = true) ∧
    (∀ x, c.readAnswer 1 = .chunk x → x.length ≤ 1) ∧
    (∀ x, d.readAnswer (8 - d.len.toNat) = .chunk x → x.length ≤ 8 - d.len.toNat) :=
  ⟨by decide, fun x h => by cases h; decide, fun x h => by cases h; decide⟩

theorem witness_FaultIsStickyUntilReset :
    let s := { openState with fault := some .linkContract }
    let u := { s with signals := [.reset] }
    s.fault = some .linkContract ∧ s.signal ≠ .reset ∧ u.fault = some .linkContract ∧ u.signal = .reset := by decide

theorem witness_ReservedFsmIsUnreachable :
    (∀ f : Fsm, f = .reserved6 ∨ f = .reserved7 →
      let s := { openState with fsm := f }
      s.fault = none ∧ s.signal = .quiet ∧ (s.fsm = .reserved6 ∨ s.fsm = .reserved7)) ∧
    (let s := { filling with sess := false }
     let u := { filling with height := none }
     s.fault = none ∧ s.signal = .quiet ∧ s.fsm = .accum ∧ s.cur = some .capture ∧ s.sess = false ∧
       u.fault = none ∧ u.signal = .quiet ∧ u.fsm = .accum ∧ u.cur = some .capture ∧ u.height = none) := by
  refine ⟨?_, by decide⟩
  rintro f (rfl | rfl) <;> decide

theorem witness_ResetStateIsReady : encodeFrame (.regRead 0x0A) = some [0xBB, 0x0A] ∧ (Instr.regRead 0x0A).wf = true := by
  decide

theorem witness_ResetForgetsTheSession : ({ openState with signals := [.reset] } : State).signal = .reset := by decide

theorem filling_steps : ∃ t, step { filling with signals := [.teardown] } = .next t := ⟨_, rfl⟩

theorem torn_coherent : Coherent { filling with signals := [.teardown] } :=
  ⟨filling_coherent.bufCanonical, filling_coherent.session, filling_coherent.work, filling_coherent.helper,
    filling_coherent.responses, filling_coherent.reachable⟩

theorem witness_StepKeepsTheInvariant :
    Coherent { filling with signals := [.teardown] } ∧ ∃ t, step { filling with signals := [.teardown] } = .next t :=
  ⟨torn_coherent, filling_steps⟩

theorem witness_StepKeepsEveryWriteFramed :
    let s := { sending .capture [0xCC] with link := [.done []] }
    Coherent s ∧ HistoryFramed s ∧ ∃ t, step s = .next t :=
  ⟨⟨sending_coherent.1.bufCanonical, sending_coherent.1.session, sending_coherent.1.work, sending_coherent.1.helper,
    sending_coherent.1.responses, sending_coherent.1.reachable⟩, sending_coherent.2, _, rfl⟩

theorem witness_StepKeepsSessionsBalanced :
    let s := { openState with hist := [.opening 1500000 1000 .ok], hostReq := [encode .close] }
    SessionsBalanced s ∧ ∃ t, step s = .next t := ⟨rfl, _, rfl⟩

theorem witness_EveryLinkAnswerLeadsToANextState :
    reading.fault = none ∧ ∀ line rest, reading.hostReq = line :: rest → ∃ i, decodeLine line = .ok i :=
  ⟨rfl, fun _ _ h => by cases h⟩

theorem witness_FrameSpecIsImmutableInASession :
    let s := { openState with hostReq := [encode .close] }
    s.sess = true ∧ s.signal ≠ .reset ∧ s.ready = true ∧ ∃ t, step s = .next t := ⟨rfl, by decide, by decide, _, rfl⟩

/-- A step with one event and a step with two. -/
theorem witness_HistoryOnlyGrows :
    let s := { openState with hostReq := [encode .close] }
    let u := { reading with link := [.failed] }
    (s.signal ≠ .reset ∧ ∃ t, step s = .next t) ∧
      u.signal ≠ .reset ∧ ∃ t, step u = .next t ∧ t.hist = u.hist ++ [.read 1 .disconnected, .closing] :=
  ⟨⟨by decide, _, rfl⟩, by decide, _, rfl, rfl⟩

theorem witness_RatesDecideNothing : forgetRates openState = forgetRates { openState with baud := none, tRead := some 5 } :=
  by decide

theorem witness_OneResponsePerRequest :
    Coherent { filling with signals := [.teardown] } ∧
      ({ filling with signals := [.teardown] } : State).cur = some .capture ∧
      ({ filling with signals := [.teardown] } : State).signal ≠ .reset ∧
      ∃ t, step { filling with signals := [.teardown] } = .next t := ⟨torn_coherent, rfl, by decide, filling_steps⟩

theorem witness_EndedOperationLeavesNoWorkingState :
    Coherent { filling with signals := [.teardown] } ∧
      ∃ t, step { filling with signals := [.teardown] } = .next t ∧ t.rsp = filling.rsp ++ [{ status := .aborted }] :=
  ⟨torn_coherent, _, rfl, rfl⟩

theorem witness_OperationsEndWithTheirStatuses :
    operationStatuses .close = some [.ok] ∧
      ∃ t, exec .close openState = .next t ∧ t.rsp = openState.rsp ++ [{ status := .ok }] := ⟨rfl, _, rfl, rfl⟩

end Sys2Proof.Tests
end

section
/-! SUPPORT. Further rules of the shared operations, one for each case analysis that several proofs need: the phases of a
command, the host's actions in a pseudo-operation, and the conversion of a wholly written buffer. -/

namespace Sys2Proof.Machine

/-! ## The phases of a command -/

/-- Everything the flush of a command can answer (R97); the first case is a pulse during it (R93). -/
theorem flushPhase_cases {s s' : State} (h : flushPhase s = .next s') :
    (s.torn = true ∧ s' = linkFlush s) ∨
      (s.torn = false ∧ s.lineAnswer = .ok ∧ s' = toTx (linkFlush s)) ∨
      (s.torn = false ∧ s.lineAnswer = .disconnected ∧ s' = ioError (linkFlush s)) := by
  cases ht : s.torn with
  | true => rw [flushPhase_torn ht] at h; cases h; exact .inl ⟨rfl, rfl⟩
  | false =>
    rw [flushPhase_eq ht] at h
    cases ha : s.lineAnswer <;> simp only [ha] at h <;> cases h
    · exact .inr (.inl ⟨rfl, rfl, rfl⟩)
    · exact .inr (.inr ⟨rfl, rfl, rfl⟩)

/-- Everything the write of a command can answer (R97); the second case is a pulse during it (R93). -/
theorem writePhase_cases {sent : State → State} {s s' : State} (h : writePhase sent s = .next s') :
    (s.txf = none ∧ s' = raiseFault .unreachableFsm s) ∨
      ∃ f, s.txf = some f ∧
        ((s.torn = true ∧ s' = linkWrite f s) ∨
          (s.torn = false ∧ s.lineAnswer = .ok ∧ s' = sent (dropFrame (linkWrite f s))) ∨
          (s.torn = false ∧ s.lineAnswer = .disconnected ∧ s' = ioError (linkWrite f s))) := by
  cases hf : s.txf with
  | none => rw [writePhase_none hf] at h; cases h; exact .inl ⟨rfl, rfl⟩
  | some f =>
    refine .inr ⟨f, rfl, ?_⟩
    cases ht : s.torn with
    | true => rw [writePhase_torn ht hf] at h; cases h; exact .inl ⟨rfl, rfl⟩
    | false =>
      rw [writePhase_some ht hf] at h
      cases ha : s.lineAnswer <;> simp only [ha] at h <;> cases h
      · exact .inr (.inl ⟨rfl, rfl, rfl⟩)
      · exact .inr (.inr ⟨rfl, rfl, rfl⟩)

/-- Everything a later step of a command can answer, by FSM (R24). -/
theorem resumeCommand_cases {sent : State → State} {resp accum : State → Answer} {s s' : State}
    (h : resumeCommand sent resp accum s = .next s') :
    s' = raiseFault .unreachableFsm s ∨ (s.fsm = .flush ∧ flushPhase s = .next s') ∨
      (s.fsm = .tx ∧ writePhase sent s = .next s') ∨ (s.fsm = .resp ∧ resp s = .next s') ∨
      (s.fsm = .accum ∧ accum s = .next s') := by
  unfold resumeCommand at h
  cases hf : s.fsm <;> simp only [hf] at h
  case flush => exact .inr (.inl ⟨rfl, h⟩)
  case tx => exact .inr (.inr (.inl ⟨rfl, h⟩))
  case resp => exact .inr (.inr (.inr (.inl ⟨rfl, h⟩)))
  case accum => exact .inr (.inr (.inr (.inr ⟨rfl, h⟩)))
  all_goals cases h; exact .inl rfl

section

variable {i : Instr} {accept : State → Answer} {sent : State → State} {resp accum : State → Answer} {s : State}

/-- In state TX the command in flight writes its frame (R97). -/
theorem operate_tx (hfault : s.fault = none) (hfsm : s.fsm = .tx) (hcur : s.cur = some i) :
    operate i accept (resumeCommand sent resp accum) s = writePhase sent s := by
  rw [operate_resume hfault (by simp [hfsm]) hcur, resumeCommand, hfsm]

/-- In state RESP the command in flight reads its response (R100). -/
theorem operate_resp (hfault : s.fault = none) (hfsm : s.fsm = .resp) (hcur : s.cur = some i) :
    operate i accept (resumeCommand sent resp accum) s = resp s := by
  rw [operate_resume hfault (by simp [hfsm]) hcur, resumeCommand, hfsm]

/-- In state ACCUM the command in flight goes on with its loop (R105). -/
theorem operate_accum (hfault : s.fault = none) (hfsm : s.fsm = .accum) (hcur : s.cur = some i) :
    operate i accept (resumeCommand sent resp accum) s = accum s := by
  rw [operate_resume hfault (by simp [hfsm]) hcur, resumeCommand, hfsm]

end

/-- From IDLE a command is accepted: its argument check is well-formedness, its frame the one it encodes to (R89, R95). -/
theorem exec_command_idle {i : Instr} {f : List Byte} {s : State} (hf : encodeFrame i = some f)
    (hfault : s.fault = none) (hidle : s.fsm = .idle) : exec i s = acceptCommand i.wf f (latch i s) := by
  obtain ⟨sent, resp, accum, hexec⟩ := exec_command hf
  rw [hexec, operate_idle hfault hidle]

/-! ## The pseudo-operations -/

/-- Everything the host can do when a pseudo-operation starts (R130). -/
theorem startHelper_cases {op : HelperOp} {reg bit : Word} {s s' : State} (h : startHelper op reg bit s = .next s') :
    (inRange8 reg = true ∧ bitIndexOk bit = true ∧ issueRead op reg bit s = .next s') ∨
      s' = finishHelper { status := .invalidArgument } s := by
  unfold startHelper at h
  split at h
  · rename_i hargs
    obtain ⟨hreg, hbit⟩ := Bool.and_eq_true_iff.mp hargs
    exact .inl ⟨hreg, hbit, h⟩
  · cases h; exact .inr rfl

/-- Everything the host can do with the response its pseudo-operation waited for (R127 to R129, R133). -/
theorem useResponse_cases {x : Helper} {r : Response} {s s' : State} (h : useResponse x r s = .next s') :
    (∃ res, s' = finishHelper res s) ∨ (∃ v, x.op ≠ .get ∧ issueWrite x v s = .next s') ∨
      (x.phase = .awaitRead ∧ r.status = .ok ∧ r.value = none ∧ s' = raiseFault .unreachableFsm s) := by
  unfold useResponse at h
  split at h
  · cases h; exact .inl ⟨_, rfl⟩
  · rename_i hphase
    split at h
    · split at h
      · unfold useValue at h
        split at h
        · exact .inr (.inl ⟨_, by simp [*], h⟩)
        · exact .inr (.inl ⟨_, by simp [*], h⟩)
        · cases h; exact .inl ⟨_, rfl⟩
      · cases h; exact .inr (.inr ⟨hphase, ‹_›, ‹_›, rfl⟩)
    · cases h; exact .inl ⟨_, rfl⟩

/-- The host goes on with the last response, where there is one (R131). -/
theorem continueHelper_cases {x : Helper} {s s' : State} (h : continueHelper x s = .next s') :
    (∃ r, s.rsp.getLast? = some r ∧ useResponse x r s = .next s') ∨
      (s.rsp.getLast? = none ∧ s' = raiseFault .unreachableFsm s) := by
  unfold continueHelper at h
  split at h
  · exact .inl ⟨_, ‹_›, h⟩
  · cases h; exact .inr ⟨‹_›, rfl⟩

/-! ## FrameDecode of a written buffer -/

theorem convertFrom_isSome {m : Memory} {k i : Nat} (h : ∀ a, a < 2 * (i + k) → (Memory.read m a).isSome = true) :
    (convertFrom m k i).isSome = true := by
  induction k generalizing i with
  | zero => rfl
  | succ k ih =>
    obtain ⟨lo, hlo⟩ := Option.isSome_iff_exists.mp (h (2 * i) (by omega))
    obtain ⟨hi, hhi⟩ := Option.isSome_iff_exists.mp (h (2 * i + 1) (by omega))
    obtain ⟨rest, hrest⟩ := Option.isSome_iff_exists.mp (ih (i := i + 1) fun a ha => h a (by omega))
    simp [convertFrom, read16_of_read hlo hhi, hrest]

/-- A buffer written up to BYTE_SIZE decodes to an image (R42, R123). -/
theorem frameDecode_isSome {w h : Word} {m : Memory}
    (hm : ∀ a, a < byteSizeOf w h → (Memory.read m a).isSome = true) :
    (frameDecode w.toNat h.toNat m).isSome = true := by
  have hconv : (convertFrom m (w.toNat * h.toNat) 0).isSome = true :=
    convertFrom_isSome fun a ha => hm a (by unfold byteSizeOf; omega)
  obtain ⟨pixels, hpixels⟩ := Option.isSome_iff_exists.mp hconv
  simp [frameDecode, hpixels]

end Sys2Proof.Machine
end

section
/-! SUPPORT. The invariant `Coherent`: what of the state it speaks of, the part of it that every update keeps (`Sound`), and
the step lemma. -/

namespace Sys2Proof.Safety

open Sys2Proof.Machine

/-! ## What of the state the invariant speaks of -/

/-- The state without the link's and the host's tapes, the history and the outputs of which `Coherent` says nothing. -/
def bare (s : State) : State :=
  { s with hist := [], hostReq := [], signals := [], link := [], freeCount := 0, results := [], pixOut := [] }

@[simp] theorem bare_passSignal (s : State) : bare s.passSignal = bare s := rfl
@[simp] theorem bare_leaveLines (rest : List HostLine) (s : State) : bare (leaveLines rest s) = bare s := rfl
@[simp] theorem bare_emitPixel (p : Pixel) (s : State) : bare (emitPixel p s) = bare s := rfl

@[simp] theorem bare_record (e : LinkEvent) (s : State) : bare (s.record e) = bare s := rfl

@[simp] theorem bare_takeAnswer (s : State) : bare s.takeAnswer = bare s := by
  unfold State.takeAnswer
  split <;> rfl

@[simp] theorem bare_linkOpen (b t : Word) (s : State) : bare (linkOpen b t s) = bare s := by simp [linkOpen]
@[simp] theorem bare_linkFlush (s : State) : bare (linkFlush s) = bare s := by simp [linkFlush]
@[simp] theorem bare_linkWrite (f : List Byte) (s : State) : bare (linkWrite f s) = bare s := by simp [linkWrite]
@[simp] theorem bare_linkRead (n : Nat) (s : State) : bare (linkRead n s) = bare s := by simp [linkRead]

theorem coherent_bare_iff (s : State) : Coherent (bare s) ↔ Coherent s :=
  ⟨fun h => ⟨h.bufCanonical, h.session, h.work, h.helper, h.responses, h.reachable⟩,
    fun h => ⟨h.bufCanonical, h.session, h.work, h.helper, h.responses, h.reachable⟩⟩

/-- The invariant holds of a state that differs only where it says nothing. -/
theorem Coherent.congr {s t : State} (h : Coherent s) (ht : bare t = bare s) : Coherent t := by
  rw [← coherent_bare_iff, ht, coherent_bare_iff]
  exact h

/-! ## The invariant by FSM -/

theorem workOk_idle {s : State} (h : s.fsm = .idle) : WorkOk s ↔ IdleOk s := by simp [WorkOk, h]
theorem workOk_tx {s : State} (h : s.fsm = .tx) : WorkOk s ↔ TxOk s := by simp [WorkOk, h]
theorem workOk_resp {s : State} (h : s.fsm = .resp) : WorkOk s ↔ RespOk s := by simp [WorkOk, h]
theorem workOk_accum {s : State} (h : s.fsm = .accum) : WorkOk s ↔ AccumOk s := by simp [WorkOk, h]

/-- Only IDLE, TX, RESP and ACCUM are seen between steps (log 8). -/
theorem Coherent.fsm_cases {s : State} (h : Coherent s) :
    s.fsm = .idle ∨ s.fsm = .tx ∨ s.fsm = .resp ∨ s.fsm = .accum := by
  have hwork := h.work
  unfold WorkOk at hwork
  cases hf : s.fsm <;> simp [hf] at hwork ⊢

/-- While FSM is not IDLE an operation is latched (R34). -/
theorem Coherent.cur_of_flight {s : State} (h : Coherent s) (hfsm : s.fsm ≠ .idle) : ∃ i, s.cur = some i := by
  rcases h.fsm_cases with hf | hf | hf | hf
  · exact absurd hf hfsm
  · obtain ⟨-, -, -, i, -, hcur, -⟩ := (workOk_tx hf).mp h.work
    exact ⟨i, hcur⟩
  · obtain ⟨-, -, -, -, reg, hcur, -⟩ := (workOk_resp hf).mp h.work
    exact ⟨_, hcur⟩
  · obtain ⟨-, -, hcur, -⟩ := (workOk_accum hf).mp h.work
    exact ⟨_, hcur⟩

/-! ## The part of the invariant that does not depend on FSM -/

/-- A pseudo-operation in progress has passed its operand check, and GET_BIT writes nothing (R129, R130). -/
def HelperFits (x : Helper) : Prop :=
  inRange8 x.reg = true ∧ bitIndexOk x.bit = true ∧ (x.op = .get → x.phase = .awaitRead)

/-- The request a pseudo-operation waits for is the operation `i` (R131). -/
def Requests (x : Helper) (i : Instr) : Prop :=
  (x.phase = .awaitRead → i = .regRead x.reg) ∧ (x.phase = .awaitWrite → ∃ v, i = .regWrite x.reg v)

/-- A response that a pseudo-operation can go on from: an OK response of its read carries the value (R138). -/
def Usable (x : Helper) (r : Response) : Prop := x.phase = .awaitRead → r.status = .ok → r.value.isSome = true

theorem usable_of_error {x : Helper} {r : Response} (h : r.status ≠ .ok) : Usable x r := fun _ hok => absurd hok h

/-- The part of `Coherent` that no update of FSM or of the working registers touches. -/
structure Sound (s : State) : Prop where
  session : SessionOk s
  helper : ∀ x, s.helper = some x → HelperFits x
  responses : ∀ r ∈ s.rsp, ResponseOk r
  reachable : s.fault ≠ some .unreachableFsm

theorem sound_bare_iff (s : State) : Sound (bare s) ↔ Sound s :=
  ⟨fun h => ⟨h.session, h.helper, h.responses, h.reachable⟩, fun h => ⟨h.session, h.helper, h.responses, h.reachable⟩⟩

theorem Sound.congr {s t : State} (h : Sound s) (ht : bare t = bare s) : Sound t := by
  rw [← sound_bare_iff, ht, sound_bare_iff]
  exact h

theorem Coherent.sound {s : State} (h : Coherent s) : Sound s where
  session := h.session
  helper x hx := by
    obtain ⟨hreg, hbit, hget, -⟩ := h.helper x hx
    exact ⟨hreg, hbit, hget⟩
  responses := h.responses
  reachable := h.reachable

theorem Sound.latch {s : State} (h : Sound s) (i : Instr) : Sound (latch i s) :=
  ⟨h.session, h.helper, h.responses, h.reachable⟩

theorem Sound.loadFrame {s : State} (h : Sound s) (f : List Byte) : Sound (loadFrame f s) :=
  ⟨h.session, h.helper, h.responses, h.reachable⟩

theorem Sound.clearWork {s : State} (h : Sound s) : Sound (clearWork s) :=
  ⟨h.session, h.helper, h.responses, h.reachable⟩

theorem Sound.appendChunk {s : State} (h : Sound s) (c : List Byte) : Sound (appendChunk c s) :=
  ⟨h.session, h.helper, h.responses, h.reachable⟩

theorem Sound.closeLink {s : State} (h : Sound s) : Sound (closeLink s) :=
  ⟨fun hs => by simp at hs, h.helper, h.responses, h.reachable⟩

theorem Sound.awaiting {s : State} (h : Sound s) {x : Helper} (hx : HelperFits x) : Sound (awaiting x s) :=
  ⟨h.session, fun y hy => by cases hy; exact hx, h.responses, h.reachable⟩

/-- OPEN latches a supported FrameSpec (R90). -/
theorem Sound.latchSession {s : State} (h : Sound s) {w hh : Word} (hsup : supported s.params w hh = true) (b t : Word) :
    Sound (latchSession w hh b t s) :=
  ⟨fun _ => ⟨w, hh, b, t, rfl, rfl, rfl, rfl, hsup⟩, h.helper, h.responses, h.reachable⟩

/-- What the host waits for, in the three notions above. -/
theorem helperOk_iff {s : State} :
    HelperOk s ↔ ∀ x, s.helper = some x → HelperFits x ∧
      (s.fsm = .idle → ∃ r, s.rsp.getLast? = some r ∧ Usable x r) ∧
      (s.fsm ≠ .idle → (x.phase = .awaitRead → s.cur = some (.regRead x.reg)) ∧
        (x.phase = .awaitWrite → ∃ v, s.cur = some (.regWrite x.reg v))) := by
  refine forall_congr' fun x => imp_congr_right fun _ => ?_
  unfold HelperFits Usable
  tauto

theorem helperOk_of_flight {s : State} {i : Instr} (h : Sound s) (hfsm : s.fsm ≠ .idle) (hcur : s.cur = some i)
    (hreq : ∀ x, s.helper = some x → Requests x i) : HelperOk s :=
  helperOk_iff.mpr fun x hx => ⟨h.helper x hx, fun hidle => absurd hidle hfsm,
    fun _ => by simpa [hcur, Requests] using hreq x hx⟩

/-- The operation in flight is the one the pseudo-operation in progress asked for (R131). -/
theorem Coherent.requests {s : State} {i : Instr} (h : Coherent s) (hfsm : s.fsm ≠ .idle) (hcur : s.cur = some i) :
    ∀ x, s.helper = some x → Requests x i := fun x hx => by
  obtain ⟨-, -, hflight⟩ := helperOk_iff.mp h.helper x hx
  simpa [hcur, Requests] using hflight hfsm

/-! ## The ends of an operation -/

/-- A response ends an operation in a coherent state, if it carries its status's fields and the host can go on from it. -/
theorem Sound.respond {s : State} {r : Response} (h : Sound s) (hlen : s.len = 0) (hbuf : s.buf = [])
    (hr : ResponseOk r) (huse : ∀ x, s.helper = some x → Usable x r) : Coherent (respond r s) where
  bufCanonical := by simp [hbuf]
  session := h.session
  work := ⟨rfl, rfl, hlen, hbuf⟩
  helper := helperOk_iff.mpr fun x hx =>
    ⟨h.helper x hx, fun _ => ⟨r, by simp, huse x hx⟩, fun hfsm => absurd rfl hfsm⟩
  responses := by
    intro q hq
    rcases List.mem_append.mp hq with hq | hq
    · exact h.responses q hq
    · rw [List.mem_singleton.mp hq]; exact hr
  reachable := h.reachable

/-- A response without fields is one of any status but INCOMPLETE_FRAME (R138). -/
theorem responseOk_bare {st : Status} (h : st ≠ .incompleteFrame) : ResponseOk { status := st } := by
  simp [ResponseOk, h]

/-- An error response without fields ends an operation in a coherent state (R139). -/
theorem Sound.respond_error {s : State} {st : Status} (h : Sound s) (hlen : s.len = 0) (hbuf : s.buf = [])
    (hok : st ≠ .ok) (hinc : st ≠ .incompleteFrame) : Coherent (Machine.respond { status := st } s) :=
  h.respond hlen hbuf (responseOk_bare hinc) fun _ _ => usable_of_error hok

/-- The IO_ERROR cleanup ends in a coherent state (R143). -/
theorem Sound.ioError {s : State} (h : Sound s) : Coherent (ioError s) :=
  h.clearWork.closeLink.respond_error rfl rfl (by decide) (by decide)

/-- The states a teardown finds at the boundary: a coherent one, or an operation whose primitive was torn (R93). -/
def Tearable (s : State) : Prop := Coherent s ∨ (Sound s ∧ ∃ i, s.cur = some i)

theorem Tearable.congr {s t : State} (h : Tearable s) (ht : bare t = bare s) : Tearable t := by
  have hcur : t.cur = s.cur := show (bare t).cur = (bare s).cur by rw [ht]
  rcases h with h | ⟨h, i, hi⟩
  · exact .inl (h.congr ht)
  · exact .inr ⟨h.congr ht, i, hcur.trans hi⟩

/-- A teardown leads to a coherent state (R93). -/
theorem Tearable.teardown {s : State} (h : Tearable s) : Coherent (teardown s) := by
  have hsound : Sound s := h.elim Coherent.sound And.left
  refine ⟨List.Pairwise.nil, fun hs => by simp at hs, ⟨rfl, rfl, rfl, rfl⟩, ?_, ?_, hsound.reachable⟩
  · refine helperOk_iff.mpr fun x hx => ⟨hsound.helper x hx, fun _ => ?_, fun hfsm => absurd rfl hfsm⟩
    cases hcur : s.cur with
    | some i => exact ⟨{ status := .aborted }, by simp [hcur], usable_of_error (by decide)⟩
    | none =>
      rcases h with h | ⟨-, i, hi⟩
      · have hidle : s.fsm = .idle := by
          by_contra hfsm
          obtain ⟨i, hi⟩ := h.cur_of_flight hfsm
          simp [hcur] at hi
        obtain ⟨-, hlast, -⟩ := helperOk_iff.mp h.helper x hx
        simpa [hcur] using hlast hidle
      · simp [hcur] at hi
  · intro r hr
    rcases List.mem_append.mp hr with hr | hr
    · exact hsound.responses r hr
    · cases hcur : s.cur with
      | none => simp [hcur] at hr
      | some i =>
        rw [hcur, abortResponses_some, List.mem_singleton] at hr
        subst hr
        exact responseOk_bare (by decide)

theorem coherent_resetSce {s : State} (h : Coherent s) : Coherent (resetSce s) where
  bufCanonical := List.Pairwise.nil
  session hs := by simp at hs
  work := ⟨rfl, rfl, rfl, rfl⟩
  helper x hx := by simp at hx
  responses := h.responses
  reachable := by simp

/-- LINK_CONTRACT leaves every register as it was (R38). -/
theorem Coherent.linkContract {s : State} (h : Coherent s) : Coherent (raiseFault .linkContract s) :=
  ⟨h.bufCanonical, h.session, h.work, h.helper, h.responses, by simp⟩

theorem Coherent.finishHelper {s : State} (h : Coherent s) (r : HelperResult) : Coherent (finishHelper r s) :=
  ⟨h.bufCanonical, h.session, h.work, fun _ hx => by simp at hx, h.responses, h.reachable⟩

/-! ## The acceptance of an operation -/

/-- What a step of the SCE gives before its boundary: a coherent state, or the state after a torn primitive (R93). -/
def Kept (s t : State) : Prop := Coherent t ∨ (s.torn = true ∧ t.fault = s.fault ∧ Sound t ∧ ∃ i, t.cur = some i)

/-- The acceptance step of a command (R89, R97, R140), whether the host offered it or a pseudo-operation asked for it. -/
theorem acceptCommand_kept {i : Instr} {f : List Byte} {s t : State} (h : Sound s) (hlen : s.len = 0) (hbuf : s.buf = [])
    (hf : encodeFrame i = some f) (hreq : ∀ x, s.helper = some x → Requests x i)
    (hstep : acceptCommand i.wf f (latch i s) = .next t) : Kept s t := by
  have hlatch := h.latch i
  rcases acceptCommand_cases hstep with ⟨-, rfl⟩ | ⟨-, -, rfl⟩ | ⟨hwf, hsess, hflush⟩
  · exact .inl (hlatch.respond_error hlen hbuf (by decide) (by decide))
  · exact .inl (hlatch.respond_error hlen hbuf (by decide) (by decide))
  · have hsent : Sound (linkFlush (loadFrame f (latch i s))) := (hlatch.loadFrame f).congr (by simp)
    rcases flushPhase_cases hflush with ⟨ht, rfl⟩ | ⟨-, -, rfl⟩ | ⟨-, -, rfl⟩
    · exact .inr ⟨by simpa using ht, by simp, hsent, i, by simp⟩
    · refine .inl ⟨by simp [hbuf], hsent.session, ?_, ?_, hsent.responses, hsent.reachable⟩
      · refine (workOk_tx rfl).mpr ⟨?_, by simpa using hlen, by simpa using hbuf, i, f, by simp, hwf, hf, by simp⟩
        simpa using hsess
      · have hsound : Sound (toTx (linkFlush (loadFrame f (latch i s)))) :=
          ⟨hsent.session, hsent.helper, hsent.responses, hsent.reachable⟩
        exact helperOk_of_flight hsound (by simp) (i := i) (by simp) fun x hx => hreq x (by simpa using hx)
    · exact .inl hsent.ioError

theorem acceptOpen_kept {w hh : Word} {baud timeout : Option Word} {s t : State} (h : Sound s) (hlen : s.len = 0)
    (hbuf : s.buf = []) (hhelper : s.helper = none) (hstep : acceptOpen w hh baud timeout s = .next t) : Coherent t := by
  rcases acceptOpen_cases hstep with ⟨-, rfl⟩ | ⟨-, -, rfl⟩ | ⟨b, ms, -, -, hsup, -, ⟨-, rfl⟩ | ⟨-, rfl⟩⟩
  · exact h.respond_error hlen hbuf (by decide) (by decide)
  · exact h.respond_error hlen hbuf (by decide) (by decide)
  · have hopen : Sound (linkOpen b ms s) := h.congr (by simp)
    exact hopen.respond_error (by simpa using hlen) (by simpa using hbuf) (by decide) (by decide)
  · have hopen : Sound (linkOpen b ms s) := h.congr (by simp)
    have hlatched := hopen.latchSession (w := w) (hh := hh) (by simpa using hsup) b ms
    exact hlatched.respond (by simpa using hlen) (by simpa using hbuf) (responseOk_bare (by decide))
      fun x hx => by simp [hhelper] at hx

theorem acceptClose_kept {s t : State} (h : Sound s) (hlen : s.len = 0) (hbuf : s.buf = []) (hhelper : s.helper = none)
    (hstep : acceptClose s = .next t) : Coherent t := by
  cases hstep
  exact h.closeLink.respond hlen hbuf (responseOk_bare (by decide)) fun x hx => by simp [hhelper] at hx

/-! ## The later steps of a command -/

/-- REG_WRITE ends with OK once its frame is sent (R99). -/
theorem regWriteSent_coherent {s : State} {reg value : Word} (h : Coherent s) (hfsm : s.fsm = .tx)
    (hcur : s.cur = some (.regWrite reg value)) : Coherent (regWriteSent (dropFrame s)) := by
  obtain ⟨-, hlen, hbuf, -⟩ := (workOk_tx hfsm).mp h.work
  have hsound : Sound (dropFrame s) := ⟨h.session, h.sound.helper, h.responses, h.reachable⟩
  refine hsound.respond hlen hbuf (responseOk_bare (by decide)) fun x hx hread => ?_
  have hreq := (h.requests (by simp [hfsm]) hcur x hx).1 hread
  cases hreq

/-- REG_READ waits for its response once its frame is sent (R100). -/
theorem regReadSent_coherent {s : State} {reg : Word} (h : Coherent s) (hfsm : s.fsm = .tx)
    (hcur : s.cur = some (.regRead reg)) : Coherent (regReadSent (dropFrame s)) := by
  obtain ⟨hsess, hlen, hbuf, i, f, hi, hwf, -⟩ := (workOk_tx hfsm).mp h.work
  have hsound : Sound (regReadSent (dropFrame s)) := ⟨h.session, h.sound.helper, h.responses, h.reachable⟩
  obtain rfl : Instr.regRead reg = i := by simpa [hcur] using hi
  refine ⟨h.bufCanonical, h.session, ?_, ?_, h.responses, h.reachable⟩
  · exact (workOk_resp rfl).mpr ⟨hsess, hlen, hbuf, rfl, reg, hcur, hwf⟩
  · exact helperOk_of_flight hsound (by simp) (by simpa using hcur) fun x hx => h.requests (by simp [hfsm]) hcur x hx

/-- A supported FrameSpec has a positive byte size below 2^32 (R28, R29). -/
theorem byteSizeOf_of_supported {p : Params} {w h : Word} (hsup : supported p w h = true) :
    0 < byteSizeOf w h ∧ byteSizeOf w h < 2 ^ 32 := by
  simp only [supported, frameSpecFits, Bool.and_eq_true, decide_eq_true_eq] at hsup
  obtain ⟨⟨⟨hw, hh⟩, hsize⟩, -⟩ := hsup
  refine ⟨?_, hsize⟩
  unfold byteSizeOf
  positivity

/-- In a session BYTE_SIZE is defined, positive and below 2^32 (R29). -/
theorem byteSize_of_session {s : State} (h : SessionOk s) (hs : s.sess = true) :
    ∃ n, s.byteSize = some n ∧ 0 < n ∧ n < 2 ^ 32 := by
  obtain ⟨w, hh, b, t, hw, hht, -, -, hsup⟩ := h hs
  exact ⟨byteSizeOf w hh, byteSize_some_iff.mpr ⟨w, hh, hw, hht, rfl⟩, byteSizeOf_of_supported hsup⟩

/-- CAPTURE begins its loop with an empty buffer once its frame is sent (R105, R106). -/
theorem captureSent_coherent {s : State} (h : Coherent s) (hfsm : s.fsm = .tx) (hcur : s.cur = some .capture) :
    Coherent (captureSent (dropFrame s)) := by
  obtain ⟨hsess, -⟩ := (workOk_tx hfsm).mp h.work
  obtain ⟨n, hn, hpos, -⟩ := byteSize_of_session h.session hsess
  have hsound : Sound (captureSent (dropFrame s)) := ⟨h.session, h.sound.helper, h.responses, h.reachable⟩
  refine ⟨List.Pairwise.nil, h.session, ?_, ?_, h.responses, h.reachable⟩
  · exact (workOk_accum rfl).mpr ⟨hsess, rfl, hcur, n, hn, hpos, fun a => by simp⟩
  · exact helperOk_of_flight hsound (by simp) (by simpa using hcur) fun x hx => h.requests (by simp [hfsm]) hcur x hx

/-- The write of a command keeps the invariant, if what follows the sent frame does (R97). -/
theorem writePhase_coherent {sent : State → State} {s t : State} {i : Instr} (h : Coherent s) (hfsm : s.fsm = .tx)
    (hcur : s.cur = some i)
    (hsent : ∀ u, Coherent u → u.fsm = .tx → u.cur = some i → Coherent (sent (dropFrame u)))
    (hstep : writePhase sent s = .next t) : Coherent t := by
  obtain ⟨-, -, -, i, f, -, -, -, htxf⟩ := (workOk_tx hfsm).mp h.work
  rcases writePhase_cases hstep with ⟨hnone, -⟩ | ⟨f, -, hcases⟩
  · simp [hnone] at htxf
  · have hwritten : Coherent (linkWrite f s) := h.congr (by simp)
    rcases hcases with ⟨-, rfl⟩ | ⟨-, -, rfl⟩ | ⟨-, -, rfl⟩
    · exact hwritten
    · exact hsent _ hwritten (by simpa using hfsm) (by simpa using hcur)
    · exact hwritten.sound.ioError

/-- The step of a command in state TX (R97, R99, R100, R105). -/
theorem exec_tx_coherent {s t : State} {i : Instr} (h : Coherent s) (hfault : s.fault = none) (hfsm : s.fsm = .tx)
    (hcur : s.cur = some i) (hstep : exec i s = .next t) : Coherent t := by
  obtain ⟨-, -, -, j, f, hj, -, hf, -⟩ := (workOk_tx hfsm).mp h.work
  obtain rfl : i = j := by simpa [hcur] using hj
  cases i with
  | regWrite reg value =>
    have hexec : exec (.regWrite reg value) s = writePhase regWriteSent s := operate_tx hfault hfsm hcur
    exact writePhase_coherent h hfsm hcur (fun u => regWriteSent_coherent) (hexec ▸ hstep)
  | regRead reg =>
    have hexec : exec (.regRead reg) s = writePhase regReadSent s := operate_tx hfault hfsm hcur
    exact writePhase_coherent h hfsm hcur (fun u => regReadSent_coherent) (hexec ▸ hstep)
  | capture =>
    have hexec : exec .capture s = writePhase captureSent s := operate_tx hfault hfsm hcur
    exact writePhase_coherent h hfsm hcur (fun u => captureSent_coherent) (hexec ▸ hstep)
  | _ => cases hf

/-- The Read of a REG_READ in state RESP (R100, R101). -/
theorem exec_resp_coherent {s t : State} {i : Instr} (h : Coherent s) (hfault : s.fault = none) (hfsm : s.fsm = .resp)
    (hcur : s.cur = some i) (hstep : exec i s = .next t) : Coherent t := by
  obtain ⟨-, hlen, hbuf, -, reg, hreg, -⟩ := (workOk_resp hfsm).mp h.work
  obtain rfl : i = .regRead reg := by simpa [hcur] using hreg
  have hexec : exec (.regRead reg) s = readResponse s := operate_resp hfault hfsm hcur
  have hread : Coherent (linkRead 1 s) := h.congr (by simp)
  have hlen : (linkRead 1 s).len = 0 := by simpa using hlen
  have hbuf : (linkRead 1 s).buf = [] := by simpa using hbuf
  rcases readResponse_cases (hexec ▸ hstep) with ⟨-, -, rfl⟩ | ⟨-, rfl⟩ | ⟨-, rfl⟩ | ⟨v, -, rfl⟩ | ⟨c, -, -, rfl⟩
  · exact hread
  · exact hread.sound.ioError
  · exact hread.sound.respond_error hlen hbuf (by decide) (by decide)
  · exact hread.sound.respond hlen hbuf (by simp [ResponseOk]) fun _ _ _ _ => rfl
  · exact hread.linkContract

/-! ## The accumulation loop -/

/-- A CAPTURE is no pseudo-operation's request (R131). -/
theorem Coherent.helper_of_capture {s : State} (h : Coherent s) (hfsm : s.fsm ≠ .idle) (hcur : s.cur = some .capture) :
    s.helper = none := by
  cases hx : s.helper with
  | none => rfl
  | some x =>
    obtain ⟨hread, hwrite⟩ := h.requests hfsm hcur x hx
    cases hphase : x.phase with
    | awaitRead => cases hread hphase
    | awaitWrite => obtain ⟨v, hv⟩ := hwrite hphase; cases hv

/-- A CAPTURE whose frame is wholly written ends with OK and its image (R105, R109). -/
theorem completeFrame_coherent {s t : State} {size : Nat} (h : Sound s) (hhelper : s.helper = none)
    (hs : s.sess = true) (hsize : s.byteSize = some size)
    (hbuf : ∀ a, a < size → (Memory.read s.buf a).isSome = true) (hstep : completeFrame s = .next t) : Coherent t := by
  obtain ⟨w, hh, hw, hht, rfl⟩ := byteSize_some_iff.mp hsize
  obtain ⟨img, himg⟩ := Option.isSome_iff_exists.mp (frameDecode_isSome hbuf)
  rw [completeFrame_some hs hw hht himg] at hstep
  cases hstep
  exact h.clearWork.respond rfl rfl (by simp [ResponseOk]) fun x hx => by simp [hhelper] at hx

/-- BUF is written exactly below LEN after a chunk is appended (R33, R108). -/
theorem appendChunk_written {s : State} {c : List Byte} (hlen : s.len.toNat + c.length < 2 ^ 32)
    (hbuf : ∀ a, (Memory.read s.buf a).isSome = true ↔ a < s.len.toNat) (a : Nat) :
    (Memory.read (appendChunk c s).buf a).isSome = true ↔ a < (appendChunk c s).len.toNat := by
  rw [appendChunk_buf, appendChunk_len, len_add hlen, read_write]
  by_cases hin : s.len.toNat ≤ a ∧ a < s.len.toNat + c.length
  · have hc : a - s.len.toNat < c.length := by omega
    simp [hin, hc]
  · rw [if_neg hin, hbuf]
    omega

/-- The step after a chunk: the loop goes on below BYTE_SIZE, and completes the frame at it (R105, R109, R111). -/
theorem afterAppend_coherent {s t : State} {c : List Byte} {size : Nat} (h : Coherent s) (hfsm : s.fsm = .accum)
    (hsize : s.byteSize = some size) (hc : c.length ≤ size - s.len.toNat)
    (hstep : afterAppend size (appendChunk c s) = .next t) : Coherent t := by
  obtain ⟨hsess, htxf, hcur, n, hn, hlen, hbuf⟩ := (workOk_accum hfsm).mp h.work
  obtain rfl : size = n := by simpa [hsize] using hn
  obtain ⟨n, hn, -, hbound⟩ := byteSize_of_session h.session hsess
  obtain rfl : size = n := by simpa [hsize] using hn
  have hwritten := appendChunk_written (c := c) (by omega) hbuf
  have hflight : s.fsm ≠ .idle := by simp [hfsm]
  have hsound := h.sound.appendChunk c
  rw [afterAppend_eq] at hstep
  split at hstep
  · rename_i hlt
    cases hstep
    refine ⟨write_wf h.bufCanonical _ _, h.session, ?_, ?_, h.responses, h.reachable⟩
    · exact (workOk_accum (s := appendChunk c s) hfsm).mpr ⟨hsess, htxf, hcur, size, hsize, hlt, hwritten⟩
    · exact helperOk_of_flight hsound hflight hcur fun x hx => h.requests hflight hcur x hx
  · rename_i hge
    exact completeFrame_coherent hsound (h.helper_of_capture hflight hcur) hsess hsize
      (fun a ha => (hwritten a).mpr (by omega)) hstep

/-- INCOMPLETE_FRAME ends a CAPTURE with the two counts (R110). -/
theorem incomplete_coherent {s t : State} {size : Nat} (h : Sound s) (hstep : incomplete size s = .next t) :
    Coherent t := by
  cases hstep
  exact h.clearWork.respond rfl rfl (by simp [ResponseOk]) fun _ _ => usable_of_error (by simp)

/-- A Read of the accumulation loop in state ACCUM (R105). -/
theorem exec_accum_coherent {s t : State} {i : Instr} (h : Coherent s) (hfault : s.fault = none) (hfsm : s.fsm = .accum)
    (hcur : s.cur = some i) (hstep : exec i s = .next t) : Coherent t := by
  obtain ⟨hsess, -, hcap, size, hsize, hlen, -⟩ := (workOk_accum hfsm).mp h.work
  obtain rfl : i = .capture := by simpa [hcur] using hcap
  have hexec : exec .capture s = accumPhase s := operate_accum hfault hfsm hcur
  rw [hexec, accumPhase_some hsess hsize, if_pos hlen] at hstep
  have hread : Coherent (linkRead (size - s.len.toNat) s) := h.congr (by simp)
  rcases accumulate_cases hstep with ⟨-, -, rfl⟩ | ⟨-, rfl⟩ | ⟨c, -, -, rfl⟩ | ⟨-, hinc⟩ | ⟨c, -, -, hc, happ⟩
  · exact hread
  · exact hread.sound.ioError
  · exact hread.linkContract
  · exact incomplete_coherent hread.sound hinc
  · exact afterAppend_coherent hread (by simpa using hfsm) (by simpa [State.byteSize] using hsize) (by simpa using hc) happ

/-- A step of the operation in flight keeps the invariant. -/
theorem exec_flight_coherent {s t : State} {i : Instr} (h : Coherent s) (hfault : s.fault = none) (hfsm : s.fsm ≠ .idle)
    (hcur : s.cur = some i) (hstep : exec i s = .next t) : Coherent t := by
  rcases h.fsm_cases with hf | hf | hf | hf
  · exact absurd hf hfsm
  · exact exec_tx_coherent h hfault hf hcur hstep
  · exact exec_resp_coherent h hfault hf hcur hstep
  · exact exec_accum_coherent h hfault hf hcur hstep

/-! ## The host's turn -/

/-- A command accepted from IDLE, whatever the host waits for, as long as it is this command (R89, R131). -/
theorem exec_command_kept {i : Instr} {f : List Byte} {s t : State} (h : Sound s) (hidle : IdleOk s)
    (hfault : s.fault = none) (hfsm : s.fsm = .idle) (hf : encodeFrame i = some f)
    (hreq : ∀ x, s.helper = some x → Requests x i) (hstep : exec i s = .next t) : Kept s t := by
  obtain ⟨-, -, hlen, hbuf⟩ := hidle
  rw [exec_command_idle hf hfault hfsm] at hstep
  exact acceptCommand_kept h hlen hbuf hf hreq hstep

/-- A pseudo-operation's start: the operand check, then its REG_READ (R130, R131). -/
theorem startHelper_kept {op : HelperOp} {reg bit : Word} {s t : State} (h : Coherent s) (hfault : s.fault = none)
    (hfsm : s.fsm = .idle) (hstep : startHelper op reg bit s = .next t) : Kept s t := by
  have hidle := (workOk_idle hfsm).mp h.work
  rcases startHelper_cases hstep with ⟨hreg, hbit, hissue⟩ | rfl
  · exact exec_command_kept (s := awaiting ⟨op, reg, bit, .awaitRead⟩ s) (i := .regRead reg)
      (h.sound.awaiting ⟨hreg, hbit, fun _ => rfl⟩) hidle hfault hfsm rfl
      (fun x hx => by cases hx; exact ⟨fun _ => rfl, nofun⟩) hissue
  · exact .inl (h.finishHelper _)

/-- A pseudo-operation goes on with the response of its request: its result, or its REG_WRITE (R127 to R129, R133). -/
theorem continueHelper_kept {x : Helper} {s t : State} (h : Coherent s) (hfault : s.fault = none) (hfsm : s.fsm = .idle)
    (hx : s.helper = some x) (hstep : continueHelper x s = .next t) : Kept s t := by
  have hidle := (workOk_idle hfsm).mp h.work
  obtain ⟨⟨hreg, hbit, -⟩, hlast, -⟩ := helperOk_iff.mp h.helper x hx
  obtain ⟨r, hr, huse⟩ := hlast hfsm
  rcases continueHelper_cases hstep with ⟨q, hq, hstep⟩ | ⟨hnone, -⟩
  · obtain rfl : r = q := by simpa [hr] using hq
    rcases useResponse_cases hstep with ⟨res, rfl⟩ | ⟨v, hop, hissue⟩ | ⟨hread, hok, hvalue, -⟩
    · exact .inl (h.finishHelper res)
    · refine exec_command_kept (s := awaiting { x with phase := .awaitWrite } s) (i := .regWrite x.reg (zextWord v))
        (h.sound.awaiting ⟨hreg, hbit, fun hget => absurd hget hop⟩) hidle hfault hfsm rfl (fun y hy => ?_) hissue
      cases hy
      exact ⟨nofun, fun _ => ⟨_, rfl⟩⟩
    · have hsome := huse hread hok
      simp [hvalue] at hsome
  · simp [hr] at hnone

theorem runHelper_kept {op : HelperOp} {reg bit : Word} {s t : State} (h : Coherent s)
    (hstep : runHelper op reg bit s = .next t) : Kept s t := by
  obtain ⟨hfault, rfl | ⟨hfsm, -, hstart⟩ | ⟨hfsm, x, hx, -, -, -, hcont⟩⟩ := runHelper_cases hstep
  · exact .inl h
  · exact startHelper_kept h hfault hfsm hstart
  · exact continueHelper_kept h hfault hfsm hx hcont

/-- A line that the host offers is accepted (R89), given to the pixel converter, or starts a pseudo-operation. -/
theorem exec_offered_kept {i : Instr} {s t : State} (h : Coherent s) (hfault : s.fault = none) (hfsm : s.fsm = .idle)
    (hhelper : s.helper = none) (hstep : exec i s = .next t) : Kept s t := by
  have hidle := (workOk_idle hfsm).mp h.work
  have hnone : ∀ x, s.helper = some x → Requests x i := fun x hx => by simp [hhelper] at hx
  have ⟨_, _, hlen, hbuf⟩ := hidle
  cases i with
  | openSession w hh baud timeout =>
    have hexec : exec (.openSession w hh baud timeout) s = acceptOpen w hh baud timeout (latch _ s) :=
      operate_idle hfault hfsm
    exact .inl (acceptOpen_kept (h.sound.latch _) hlen hbuf hhelper (hexec ▸ hstep))
  | close =>
    have hexec : exec .close s = acceptClose (latch .close s) := operate_idle hfault hfsm
    exact .inl (acceptClose_kept (h.sound.latch _) hlen hbuf hhelper (hexec ▸ hstep))
  | regWrite reg value => exact exec_command_kept h.sound hidle hfault hfsm rfl hnone hstep
  | regRead reg => exact exec_command_kept h.sound hidle hfault hfsm rfl hnone hstep
  | capture => exact exec_command_kept h.sound hidle hfault hfsm rfl hnone hstep
  | pixConv v =>
    simp only [exec, execPixConv, hfault] at hstep
    cases hstep
    exact .inl (h.congr (by simp))
  | setBit reg bit => exact runHelper_kept h (exec_helper .set reg bit s ▸ hstep)
  | clearBit reg bit => exact runHelper_kept h (exec_helper .clear reg bit s ▸ hstep)
  | getBit reg bit => exact runHelper_kept h (exec_helper .get reg bit s ▸ hstep)

/-! ## The step -/

/-- What happens between the two boundaries of a step keeps the invariant, but for a torn primitive. -/
theorem proceed_kept {s t : State} (h : Coherent s) (hfault : s.fault = none) (hstep : proceed s = .next t) : Kept s t := by
  rcases proceed_cases hstep with ⟨-, x, -, hexec⟩ | ⟨-, -, -, rfl⟩ | ⟨hfsm, hhelper, line, rest, i, -, -, hexec⟩ |
      ⟨hfsm, i, hcur, hexec⟩ | ⟨hfsm, hbad, -⟩
  · rw [exec_helper] at hexec
    exact runHelper_kept h hexec
  · exact .inl h
  · exact exec_offered_kept (s := leaveLines rest s) (h.congr (bare_leaveLines rest s)) hfault hfsm hhelper hexec
  · exact .inl (exec_flight_coherent h hfault hfsm hcur hexec)
  · obtain ⟨i, hi⟩ := h.cur_of_flight hfsm
    rcases h.fsm_cases with hf | hf | hf | hf <;> simp [hi, hf] at hbad hfsm

/-- A pulse at the boundary after a step finds a state it can tear down (R93). -/
theorem Kept.tearable {s t : State} (h : Kept s t) : Tearable t := by
  rcases h with h | ⟨-, -, h⟩
  · exact .inl h
  · exact .inr h

/-- Every step keeps the invariant. -/
theorem step_coherent {s t : State} (h : Coherent s) (hstep : step s = .next t) : Coherent t := by
  rcases step_cases hstep with ⟨-, rfl⟩ | ⟨-, -, rfl⟩ | ⟨hfault, hsig, u, hu, rfl⟩ | ⟨hfault, -, u, hu, htear⟩
  · exact coherent_resetSce (h.congr (bare_passSignal s))
  · exact Tearable.teardown (.inl (h.congr (bare_passSignal s)))
  · rcases proceed_kept h hfault hu with hu | ⟨htorn, -⟩
    · exact hu.congr (bare_passSignal u)
    · simp [torn_of_quiet hsig] at htorn
  · have hkept := proceed_kept h hfault hu
    rcases htear with ⟨-, rfl⟩ | ⟨hfaulted, rfl⟩
    · exact (hkept.tearable.congr (bare_passSignal u)).teardown
    · rcases hkept with hu | ⟨-, hsame, -⟩
      · exact hu.congr (bare_passSignal u)
      · exact absurd (hsame.trans hfault) hfaulted

end Sys2Proof.Safety
end

section
/-! SUPPORT. What every step but a reset adds to the history and to the responses, and what it leaves of the session
registers, proved in one pass over the operations. -/

namespace Sys2Proof.Safety

open Sys2Proof.Machine

/-! ## What an operation adds before the boundary -/

/-- The state without what `Early` and, of the state before, `Progress` do not speak of. -/
def ledger (s : State) : State :=
  { State.reset with
    sess := s.sess, width := s.width, height := s.height, baud := s.baud, tRead := s.tRead, hist := s.hist,
    params := s.params, rsp := s.rsp }

/-- While SESS = 1 the session registers stay (R44). -/
def KeepsSession (s t : State) : Prop :=
  s.sess = true → t.width = s.width ∧ t.height = s.height ∧ t.baud = s.baud ∧ t.tRead = s.tRead

theorem KeepsSession.refl (s : State) : KeepsSession s s := fun _ => ⟨rfl, rfl, rfl, rfl⟩

/-- At most one link primitive has been performed since `s`, and no response sent. -/
structure Early (s t : State) : Prop where
  params : t.params = s.params
  session : KeepsSession s t
  rsp : t.rsp = s.rsp
  hist : ∃ es, t.hist = s.hist ++ es ∧ es.length ≤ 1

/-- What one step of an operation does: at most one primitive, or one and the Close of a cleanup (R143), and at most one
response, which ends the operation (R138). -/
structure Progress (s t : State) : Prop where
  params : t.params = s.params
  session : KeepsSession s t
  rsp : t.rsp = s.rsp ∨ (t.cur = none ∧ ∃ r, t.rsp = s.rsp ++ [r])
  hist : ∃ es, t.hist = s.hist ++ es ∧ (es.length ≤ 1 ∨ ∃ e, es = [e, .closing] ∧ t.sess = false)

theorem early_ledger_iff (s t : State) : Early s (ledger t) ↔ Early s t :=
  ⟨fun h => ⟨h.params, h.session, h.rsp, h.hist⟩, fun h => ⟨h.params, h.session, h.rsp, h.hist⟩⟩

theorem progress_ledger_iff (s t : State) : Progress (ledger s) t ↔ Progress s t :=
  ⟨fun h => ⟨h.params, h.session, h.rsp, h.hist⟩, fun h => ⟨h.params, h.session, h.rsp, h.hist⟩⟩

/-- An update that leaves the ledger alone may follow. -/
theorem Early.andThen {s t u : State} (h : Early s t) (hu : ledger u = ledger t) : Early s u := by
  rw [← early_ledger_iff, hu, early_ledger_iff]
  exact h

/-- An update that leaves the ledger alone may come before. -/
theorem Progress.preceded {s t u : State} (h : Progress u t) (hu : ledger s = ledger u) : Progress s t := by
  rw [← progress_ledger_iff, hu, progress_ledger_iff]
  exact h

theorem Early.refl (s : State) : Early s s := ⟨rfl, .refl s, rfl, [], by simp, by simp⟩

/-- An update that leaves the ledger alone. -/
theorem Early.of_ledger {s t : State} (h : ledger t = ledger s) : Early s t := (Early.refl s).andThen h

theorem Early.flush (s : State) : Early s (linkFlush s) :=
  ⟨by simp, fun _ => by simp, by simp, _, linkFlush_hist s, by simp⟩

theorem Early.write (f : List Byte) (s : State) : Early s (linkWrite f s) :=
  ⟨by simp, fun _ => by simp, by simp, _, linkWrite_hist s f, by simp⟩

theorem Early.read (n : Nat) (s : State) : Early s (linkRead n s) :=
  ⟨by simp, fun _ => by simp, by simp, _, linkRead_hist s n, by simp⟩

theorem Early.opening (b t : Word) (s : State) : Early s (linkOpen b t s) :=
  ⟨by simp, fun _ => by simp, by simp, _, linkOpen_hist s b t, by simp⟩

theorem Early.progress {s t : State} (h : Early s t) : Progress s t := by
  obtain ⟨es, hes, hlen⟩ := h.hist
  exact ⟨h.params, h.session, .inl h.rsp, es, hes, .inl hlen⟩

/-- One response ends the operation (R138). -/
theorem Early.respond {s t : State} (h : Early s t) (r : Response) : Progress s (respond r t) := by
  obtain ⟨es, hes, hlen⟩ := h.hist
  exact ⟨h.params, h.session, .inr ⟨rfl, r, by simp [h.rsp]⟩, es, hes, .inl hlen⟩

/-- A close and one response end the operation (R91, R143). -/
theorem Early.respond_closeLink {s t : State} (h : Early s t) (r : Response) :
    Progress s (Machine.respond r (closeLink t)) := by
  obtain ⟨es, hes, hlen⟩ := h.hist
  refine ⟨h.params, h.session, .inr ⟨rfl, r, by simp [h.rsp]⟩, es ++ closeEvents t.sess, by simp [hes], ?_⟩
  match es, t.sess with
  | _, false => exact .inl (by simpa using hlen)
  | [], true => exact .inl (by simp)
  | [e], true => exact .inr ⟨e, rfl, rfl⟩

theorem Early.ioError {s t : State} (h : Early s t) : Progress s (ioError t) :=
  (h.andThen (u := clearWork t) rfl).respond_closeLink _

theorem Early.raiseFault {s t : State} (h : Early s t) (f : Fault) : Progress s (raiseFault f t) :=
  (h.andThen (u := Machine.raiseFault f t) rfl).progress

theorem progress_unreachable (s : State) : Progress s (raiseFault .unreachableFsm s) := (Early.refl s).raiseFault _

/-! ## The operations -/

theorem flushPhase_progress {s t : State} (h : flushPhase s = .next t) : Progress s t := by
  rcases flushPhase_cases h with ⟨-, rfl⟩ | ⟨-, -, rfl⟩ | ⟨-, -, rfl⟩
  · exact (Early.flush s).progress
  · exact Early.progress ((Early.flush s).andThen rfl)
  · exact (Early.flush s).ioError

theorem writePhase_progress {sent : State → State} {s t : State}
    (hsent : ∀ u, Early s u → Progress s (sent u)) (h : writePhase sent s = .next t) : Progress s t := by
  rcases writePhase_cases h with ⟨-, rfl⟩ | ⟨f, -, ⟨-, rfl⟩ | ⟨-, -, rfl⟩ | ⟨-, -, rfl⟩⟩
  · exact progress_unreachable s
  · exact (Early.write f s).progress
  · exact hsent _ ((Early.write f s).andThen rfl)
  · exact (Early.write f s).ioError

theorem readPhase_progress {n : Nat} {got : List Byte → Answer} {s t : State}
    (hgot : ∀ c, got c = .next t → Progress s t) (h : readPhase n got s = .next t) : Progress s t := by
  rcases readPhase_cases h with ⟨-, -, rfl⟩ | ⟨-, rfl⟩ | ⟨c, -, -, rfl⟩ | ⟨c, -, -, hc⟩
  · exact (Early.read n s).progress
  · exact (Early.read n s).ioError
  · exact (Early.read n s).raiseFault _
  · exact hgot c hc

theorem readResponse_progress {s t : State} (h : readResponse s = .next t) : Progress s t := by
  refine readPhase_progress (fun c hc => ?_) h
  cases c <;> cases hc <;> exact (Early.read 1 s).respond _

theorem completeFrame_progress {s u t : State} (hu : Early s u) (h : completeFrame u = .next t) : Progress s t := by
  rcases completeFrame_cases h with ⟨w, hh, img, -, -, -, -, rfl⟩ | rfl
  · exact (hu.andThen (u := clearWork u) rfl).respond _
  · exact hu.raiseFault _

theorem accumulate_progress {size : Nat} {s t : State} (h : accumulate size s = .next t) : Progress s t := by
  have hread := Early.read (size - s.len.toNat) s
  refine readPhase_progress (fun c hc => ?_) h
  split at hc
  · cases hc
    exact (hread.andThen (u := clearWork _) rfl).respond _
  · have happended := hread.andThen (u := appendChunk c (linkRead (size - s.len.toNat) s)) rfl
    rw [afterAppend_eq] at hc
    split at hc
    · cases hc; exact happended.progress
    · exact completeFrame_progress happended hc

theorem accumPhase_progress {s t : State} (h : accumPhase s = .next t) : Progress s t := by
  unfold accumPhase at h
  split at h
  · cases h; exact progress_unreachable s
  · split at h
    · exact accumulate_progress h
    · exact completeFrame_progress (.refl s) h

theorem operate_progress {i : Instr} {accept resume : State → Answer} {s t : State}
    (haccept : ∀ u, accept u = .next t → Progress u t) (hresume : resume s = .next t → Progress s t)
    (h : operate i accept resume s = .next t) : Progress s t := by
  obtain ⟨-, ⟨-, h⟩ | ⟨-, -, h⟩ | ⟨-, -, rfl⟩⟩ := operate_cases h
  · exact (haccept _ h).preceded rfl
  · exact hresume h
  · exact (Early.refl _).progress

theorem acceptCommand_progress {argsOk : Bool} {f : List Byte} {s t : State}
    (h : acceptCommand argsOk f s = .next t) : Progress s t := by
  rcases acceptCommand_cases h with ⟨-, rfl⟩ | ⟨-, -, rfl⟩ | ⟨-, -, h⟩
  · exact (Early.refl s).respond _
  · exact (Early.refl s).respond _
  · exact (flushPhase_progress h).preceded rfl

theorem resumeCommand_progress {sent : State → State} {resp accum : State → Answer} {s t : State}
    (hsent : ∀ u, Early s u → Progress s (sent u)) (hresp : resp s = .next t → Progress s t)
    (haccum : accum s = .next t → Progress s t) (h : resumeCommand sent resp accum s = .next t) : Progress s t := by
  rcases resumeCommand_cases h with rfl | ⟨-, h⟩ | ⟨-, h⟩ | ⟨-, h⟩ | ⟨-, h⟩
  · exact progress_unreachable s
  · exact flushPhase_progress h
  · exact writePhase_progress hsent h
  · exact hresp h
  · exact haccum h

theorem unreachable_progress {s t : State} (h : unreachable s = .next t) : Progress s t := by
  cases h
  exact progress_unreachable s

theorem execRegWrite_progress {reg value : Word} {s t : State} (h : execRegWrite reg value s = .next t) :
    Progress s t :=
  operate_progress (fun _ => acceptCommand_progress)
    (resumeCommand_progress (fun _ hu => hu.respond _) unreachable_progress unreachable_progress) h

theorem execRegRead_progress {reg : Word} {s t : State} (h : execRegRead reg s = .next t) : Progress s t :=
  operate_progress (fun _ => acceptCommand_progress)
    (resumeCommand_progress (sent := regReadSent) (fun _ hu => Early.progress (hu.andThen rfl))
      readResponse_progress unreachable_progress) h

theorem execCapture_progress {s t : State} (h : execCapture s = .next t) : Progress s t :=
  operate_progress (fun _ => acceptCommand_progress)
    (resumeCommand_progress (sent := captureSent) (fun _ hu => Early.progress (hu.andThen rfl))
      unreachable_progress accumPhase_progress) h

/-- OPEN writes the session registers while SESS = 0 only (R44, R90). -/
theorem acceptOpen_progress {w hh : Word} {baud timeout : Option Word} {s t : State}
    (h : acceptOpen w hh baud timeout s = .next t) : Progress s t := by
  rcases acceptOpen_cases h with ⟨-, rfl⟩ | ⟨-, -, rfl⟩ | ⟨b, ms, -, -, -, hsess, ⟨-, rfl⟩ | ⟨-, rfl⟩⟩
  · exact (Early.refl s).respond _
  · exact (Early.refl s).respond _
  · exact (Early.opening b ms s).respond _
  · have hopen := Early.opening b ms s
    have hlatched : Early s (latchSession w hh b ms (linkOpen b ms s)) :=
      ⟨hopen.params, fun hs => by simp [hsess] at hs, hopen.rsp, hopen.hist⟩
    exact hlatched.respond _

theorem acceptClose_progress {s t : State} (h : acceptClose s = .next t) : Progress s t := by
  cases h
  exact (Early.refl s).respond_closeLink _

theorem runHelper_progress {op : HelperOp} {reg bit : Word} {s t : State} (h : runHelper op reg bit s = .next t) :
    Progress s t := by
  have hfinish : ∀ r, Progress s (finishHelper r s) := fun r => Early.progress (.of_ledger rfl)
  obtain ⟨-, rfl | ⟨-, -, h⟩ | ⟨-, x, -, -, -, -, h⟩⟩ := runHelper_cases h
  · exact (Early.refl _).progress
  · rcases startHelper_cases h with ⟨-, -, h⟩ | rfl
    · exact (execRegRead_progress h).preceded rfl
    · exact hfinish _
  · rcases continueHelper_cases h with ⟨r, -, h⟩ | ⟨-, rfl⟩
    · rcases useResponse_cases h with ⟨res, rfl⟩ | ⟨v, -, h⟩ | ⟨-, -, -, rfl⟩
      · exact hfinish res
      · exact (execRegWrite_progress h).preceded rfl
      · exact progress_unreachable s
    · exact progress_unreachable s

theorem execPixConv_progress {v : Sample} {s t : State} (h : execPixConv v s = .next t) : Progress s t := by
  unfold execPixConv at h
  split at h <;> cases h
  exact Early.progress (.of_ledger rfl)

theorem exec_progress {i : Instr} {s t : State} (h : exec i s = .next t) : Progress s t := by
  cases i with
  | openSession w hh baud timeout => exact operate_progress (fun _ => acceptOpen_progress) unreachable_progress h
  | close => exact operate_progress (fun _ => acceptClose_progress) unreachable_progress h
  | regWrite reg value => exact execRegWrite_progress h
  | regRead reg => exact execRegRead_progress h
  | capture => exact execCapture_progress h
  | pixConv v => exact execPixConv_progress h
  | setBit reg bit => exact runHelper_progress h
  | clearBit reg bit => exact runHelper_progress h
  | getBit reg bit => exact runHelper_progress h

theorem proceed_progress {s t : State} (h : proceed s = .next t) : Progress s t := by
  rcases proceed_cases h with ⟨-, x, -, h⟩ | ⟨-, -, -, rfl⟩ | ⟨-, -, line, rest, i, -, -, h⟩ | ⟨-, i, -, h⟩ | ⟨-, -, rfl⟩
  · exact exec_progress h
  · exact (Early.refl _).progress
  · exact (exec_progress h).preceded rfl
  · exact exec_progress h
  · exact progress_unreachable s

/-! ## The step -/

/-- What one step adds: at most two events, a Close last where there are two (log 9, log 26), and at most one response. -/
structure Grown (s t : State) : Prop where
  params : t.params = s.params
  session : KeepsSession s t
  rsp : ∃ rs, t.rsp = s.rsp ++ rs ∧ rs.length ≤ 1
  hist : ∃ es, t.hist = s.hist ++ es ∧ es.length ≤ 2 ∧ (es.length = 2 → es.getLast? = some .closing)

theorem Progress.grown {s t : State} (h : Progress s t) : Grown s t.passSignal := by
  obtain ⟨es, hes, hclose⟩ := h.hist
  refine ⟨h.params, h.session, ?_, es, hes, ?_⟩
  · rcases h.rsp with hr | ⟨-, r, hr⟩
    · exact ⟨[], by simpa using hr, by simp⟩
    · exact ⟨[r], by simpa using hr, by simp⟩
  · rcases hclose with hlen | ⟨e, rfl, -⟩
    · exact ⟨by omega, by omega⟩
    · simp

/-- A teardown after the operation adds a Close only while the session is still open, and a response only while the operation
is still in flight (R93). -/
theorem Progress.grown_teardown {s t : State} (h : Progress s t) : Grown s (teardown t.passSignal) := by
  obtain ⟨es, hes, hclose⟩ := h.hist
  refine ⟨h.params, h.session, ?_, es ++ closeEvents t.sess, by simp [hes], ?_⟩
  · rcases h.rsp with hr | ⟨hcur, r, hr⟩
    · refine ⟨abortResponses t.cur, by simp [hr], ?_⟩
      cases t.cur <;> simp
    · exact ⟨[r], by simp [hr, hcur], by simp⟩
  · rcases hclose with hlen | ⟨e, rfl, hsess⟩
    · cases t.sess with
      | true => simp [hlen]
      | false => simp only [closeEvents_false, List.append_nil]; omega
    · simp [hsess]

/-- What every step but a reset adds and keeps. -/
theorem step_grown {s t : State} (hsig : s.signal ≠ .reset) (h : step s = .next t) : Grown s t := by
  rcases step_cases h with ⟨hreset, -⟩ | ⟨-, -, rfl⟩ | ⟨-, -, u, hu, rfl⟩ | ⟨-, -, u, hu, ⟨-, rfl⟩ | ⟨-, rfl⟩⟩
  · exact absurd hreset hsig
  · exact (Early.refl s).progress.grown_teardown
  · exact (proceed_progress hu).grown
  · exact (proceed_progress hu).grown_teardown
  · exact (proceed_progress hu).grown

/-- While SESS = 1 an OPEN is rejected before any link event, and its checks keep their order (R44, R90, R140). -/
theorem exec_open_rejected {s : State} (hready : s.ready = true) (hsess : s.sess = true) (w h : Word)
    (baud timeout : Option Word) :
    exec (.openSession w h baud timeout) s =
      .next { s with
        rsp := s.rsp ++ [{ status := if supported s.params w h then .invalidState else .invalidArgument }]
        cur := none, txf := none } := by
  obtain ⟨hidle, hfault⟩ := (ready_iff s).mp hready
  have hexec : exec (.openSession w h baud timeout) s = acceptOpen w h baud timeout (latch _ s) :=
    operate_idle hfault hidle
  rw [hexec, acceptOpen]
  cases hsup : supported s.params w h <;> simp [hsup, hsess, finish, Machine.respond, latch, hidle]

end Sys2Proof.Safety
end

section
/-! SUPPORT. Totality: whatever the link agent answers, an operation has a next step, and so has the machine. -/

namespace Sys2Proof.Safety

open Sys2Proof.Machine

/-- The step goes on to a next state. -/
def HasNext (a : Answer) : Prop := ∃ t, a = .next t

theorem hasNext_next (t : State) : HasNext (.next t) := ⟨t, rfl⟩

theorem afterPrimitive_hasNext {done : State} {use : Answer} (h : HasNext use) : HasNext (afterPrimitive done use) := by
  unfold afterPrimitive
  split
  · exact hasNext_next _
  · exact h

theorem flushPhase_hasNext (s : State) : HasNext (flushPhase s) := by
  refine afterPrimitive_hasNext ?_
  cases s.lineAnswer <;> exact hasNext_next _

theorem writePhase_hasNext (sent : State → State) (s : State) : HasNext (writePhase sent s) := by
  unfold writePhase
  cases s.txf with
  | none => exact hasNext_next _
  | some f =>
    refine afterPrimitive_hasNext ?_
    cases s.lineAnswer <;> exact hasNext_next _

theorem readPhase_hasNext {n : Nat} {got : List Byte → Answer} (hgot : ∀ c, HasNext (got c)) (s : State) :
    HasNext (readPhase n got s) := by
  unfold readPhase
  cases s.readAnswer n with
  | disconnected => exact afterPrimitive_hasNext (hasNext_next _)
  | chunk c =>
    dsimp only
    split
    · exact hasNext_next _
    · exact afterPrimitive_hasNext (hgot c)

theorem readResponse_hasNext (s : State) : HasNext (readResponse s) :=
  readPhase_hasNext (fun c => by cases c <;> exact hasNext_next _) s

theorem completeFrame_hasNext (s : State) : HasNext (completeFrame s) := by
  unfold completeFrame
  split
  · split <;> exact hasNext_next _
  · exact hasNext_next _

theorem accumPhase_hasNext (s : State) : HasNext (accumPhase s) := by
  unfold accumPhase
  split
  · exact hasNext_next _
  · split
    · refine readPhase_hasNext (fun c => ?_) s
      split
      · exact hasNext_next _
      · unfold afterAppend
        split
        · exact hasNext_next _
        · exact completeFrame_hasNext _
    · exact completeFrame_hasNext s

theorem operate_hasNext {i : Instr} {accept resume : State → Answer} {s : State} (hfault : s.fault = none)
    (haccept : ∀ u, HasNext (accept u)) (hresume : ∀ u, HasNext (resume u)) : HasNext (operate i accept resume s) := by
  unfold operate
  rw [hfault]
  dsimp only
  split
  · exact haccept _
  · split
    · exact hresume s
    · exact hasNext_next s

theorem acceptCommand_hasNext (argsOk : Bool) (f : List Byte) (s : State) : HasNext (acceptCommand argsOk f s) := by
  unfold acceptCommand
  split
  · exact hasNext_next _
  · split
    · exact hasNext_next _
    · exact flushPhase_hasNext _

theorem resumeCommand_hasNext {sent : State → State} {resp accum : State → Answer} (hresp : ∀ u, HasNext (resp u))
    (haccum : ∀ u, HasNext (accum u)) (s : State) : HasNext (resumeCommand sent resp accum s) := by
  unfold resumeCommand
  cases s.fsm
  case flush => exact flushPhase_hasNext s
  case tx => exact writePhase_hasNext sent s
  case resp => exact hresp s
  case accum => exact haccum s
  all_goals exact hasNext_next _

theorem unreachable_hasNext (s : State) : HasNext (unreachable s) := hasNext_next _

theorem execRegWrite_hasNext {s : State} (hfault : s.fault = none) (reg value : Word) :
    HasNext (execRegWrite reg value s) :=
  operate_hasNext hfault (acceptCommand_hasNext _ _) (resumeCommand_hasNext unreachable_hasNext unreachable_hasNext)

theorem execRegRead_hasNext {s : State} (hfault : s.fault = none) (reg : Word) : HasNext (execRegRead reg s) :=
  operate_hasNext hfault (acceptCommand_hasNext _ _) (resumeCommand_hasNext readResponse_hasNext unreachable_hasNext)

theorem execCapture_hasNext {s : State} (hfault : s.fault = none) : HasNext (execCapture s) :=
  operate_hasNext hfault (acceptCommand_hasNext _ _) (resumeCommand_hasNext unreachable_hasNext accumPhase_hasNext)

theorem acceptOpen_hasNext (w h : Word) (baud timeout : Option Word) (s : State) :
    HasNext (acceptOpen w h baud timeout s) := by
  unfold acceptOpen
  split
  · exact hasNext_next _
  · split
    · exact hasNext_next _
    · unfold openLink
      split <;> exact hasNext_next _

theorem useResponse_hasNext {s : State} (hfault : s.fault = none) (x : Helper) (r : Response) :
    HasNext (useResponse x r s) := by
  unfold useResponse
  split
  · exact hasNext_next _
  · split
    · split
      · unfold useValue
        split
        · exact execRegWrite_hasNext (s := awaiting _ s) hfault _ _
        · exact execRegWrite_hasNext (s := awaiting _ s) hfault _ _
        · exact hasNext_next _
      · exact hasNext_next _
    · exact hasNext_next _

theorem runHelper_hasNext {s : State} (hfault : s.fault = none) (op : HelperOp) (reg bit : Word) :
    HasNext (runHelper op reg bit s) := by
  unfold runHelper
  rw [hfault]
  dsimp only
  split
  · exact hasNext_next s
  · split
    · unfold startHelper
      split
      · exact execRegRead_hasNext (s := awaiting _ s) hfault _
      · exact hasNext_next _
    · split
      · unfold continueHelper
        split
        · exact useResponse_hasNext hfault _ _
        · exact hasNext_next _
      · exact hasNext_next s

/-- With no fault every operation has a next step, whatever the link agent answers (R22). -/
theorem exec_hasNext {s : State} (hfault : s.fault = none) (i : Instr) : HasNext (exec i s) := by
  cases i with
  | openSession w h baud timeout => exact operate_hasNext hfault (acceptOpen_hasNext w h baud timeout) unreachable_hasNext
  | close => exact operate_hasNext hfault (fun _ => hasNext_next _) unreachable_hasNext
  | regWrite reg value => exact execRegWrite_hasNext hfault reg value
  | regRead reg => exact execRegRead_hasNext hfault reg
  | capture => exact execCapture_hasNext hfault
  | pixConv v => exact ⟨emitPixel (pixelOf v) s, by simp [exec, execPixConv, hfault]⟩
  | setBit reg bit => exact runHelper_hasNext hfault .set reg bit
  | clearBit reg bit => exact runHelper_hasNext hfault .clear reg bit
  | getBit reg bit => exact runHelper_hasNext hfault .get reg bit

theorem proceed_hasNext {s : State} (hfault : s.fault = none)
    (hlines : ∀ line rest, s.hostReq = line :: rest → ∃ i, decodeLine line = .ok i) : HasNext (proceed s) := by
  by_cases hidle : s.fsm = .idle
  · cases hx : s.helper with
    | some x =>
      rw [proceed_helper hidle hx]
      exact exec_hasNext hfault _
    | none =>
      cases hq : s.hostReq with
      | nil => exact ⟨s, by simp [proceed, hidle, hostTurn, hx, offerNext, hq]⟩
      | cons line rest =>
        obtain ⟨i, hi⟩ := hlines line rest hq
        rw [proceed_offer hidle hx hq hi]
        exact exec_hasNext (s := leaveLines rest s) hfault i
  · rw [proceed, if_neg hidle]
    unfold inFlight
    split
    · exact hasNext_next _
    · exact hasNext_next _
    · exact exec_hasNext hfault _
    · exact hasNext_next _

theorem tearAfter_hasNext {a : Answer} (h : HasNext a) : HasNext (tearAfter a) := by
  obtain ⟨t, rfl⟩ := h
  unfold tearAfter
  dsimp only
  split <;> exact hasNext_next _

theorem passed_hasNext {a : Answer} (h : HasNext a) : HasNext (passed a) := by
  obtain ⟨t, rfl⟩ := h
  exact hasNext_next _

/-- With no fault, and an operation where the host offers a line, there is a next state (R22). -/
theorem step_hasNext {s : State} (hfault : s.fault = none)
    (hlines : ∀ line rest, s.hostReq = line :: rest → ∃ i, decodeLine line = .ok i) : HasNext (step s) := by
  have hproceed := proceed_hasNext hfault hlines
  cases hsig : s.signal with
  | quiet => rw [step_quiet hfault hsig]; exact passed_hasNext hproceed
  | teardown => rw [step_teardown hfault hsig]; exact hasNext_next _
  | teardownInStep => rw [step_torn hfault hsig]; exact tearAfter_hasNext hproceed
  | reset => rw [step_reset hsig]; exact hasNext_next _

end Sys2Proof.Safety
end

section
/-! SUPPORT. BAUD and T_READ are read by no operation: each one gives, from a state without them, its answer without them. -/

namespace Sys2Proof.Safety

open Sys2Proof.Machine

/-! ## What the operations read and write -/

section

variable (s : State)

@[simp] theorem forgetRates_lineAnswer : (forgetRates s).lineAnswer = s.lineAnswer := rfl
@[simp] theorem forgetRates_openAnswer : (forgetRates s).openAnswer = s.openAnswer := rfl
@[simp] theorem forgetRates_readAnswer (n : Nat) : (forgetRates s).readAnswer n = s.readAnswer n := rfl
@[simp] theorem forgetRates_frameSpec : (forgetRates s).frameSpec = s.frameSpec := rfl
@[simp] theorem forgetRates_signal : (forgetRates s).signal = s.signal := rfl
@[simp] theorem forgetRates_sess : (forgetRates s).sess = s.sess := rfl
@[simp] theorem forgetRates_fsm : (forgetRates s).fsm = s.fsm := rfl
@[simp] theorem forgetRates_len : (forgetRates s).len = s.len := rfl
@[simp] theorem forgetRates_buf : (forgetRates s).buf = s.buf := rfl
@[simp] theorem forgetRates_cur : (forgetRates s).cur = s.cur := rfl
@[simp] theorem forgetRates_txf : (forgetRates s).txf = s.txf := rfl
@[simp] theorem forgetRates_fault : (forgetRates s).fault = s.fault := rfl
@[simp] theorem forgetRates_params : (forgetRates s).params = s.params := rfl
@[simp] theorem forgetRates_hostReq : (forgetRates s).hostReq = s.hostReq := rfl
@[simp] theorem forgetRates_rsp : (forgetRates s).rsp = s.rsp := rfl
@[simp] theorem forgetRates_helper : (forgetRates s).helper = s.helper := rfl

theorem takeAnswer_forgetRates : (forgetRates s).takeAnswer = forgetRates s.takeAnswer := by
  cases h : s.link with
  | nil => simp [State.takeAnswer, forgetRates, h]
  | cons a rest => rw [(answer_script h).2, (answer_script (s := forgetRates s) h).2]; rfl

theorem linkOpen_forgetRates (b t : Word) : linkOpen b t (forgetRates s) = forgetRates (linkOpen b t s) := by
  rw [linkOpen, takeAnswer_forgetRates]; rfl

theorem linkFlush_forgetRates : linkFlush (forgetRates s) = forgetRates (linkFlush s) := by
  rw [linkFlush, takeAnswer_forgetRates]; rfl

theorem linkWrite_forgetRates (f : List Byte) : linkWrite f (forgetRates s) = forgetRates (linkWrite f s) := by
  rw [linkWrite, takeAnswer_forgetRates]; rfl

theorem linkRead_forgetRates (n : Nat) : linkRead n (forgetRates s) = forgetRates (linkRead n s) := by
  rw [linkRead, takeAnswer_forgetRates]; rfl

end

/-! ## The operations -/

/-- The answer from a state without BAUD and T_READ is the answer without them. -/
def RateBlind (act : State → Answer) : Prop := ∀ s, act (forgetRates s) = forgetRatesOf (act s)

theorem afterPrimitive_forgetRates (done : State) (use : Answer) :
    afterPrimitive (forgetRates done) (forgetRatesOf use) = forgetRatesOf (afterPrimitive done use) := by
  cases ht : done.torn with
  | true => rw [afterPrimitive_torn ht, afterPrimitive_torn (done := forgetRates done) ht]; rfl
  | false => rw [afterPrimitive_use ht, afterPrimitive_use (done := forgetRates done) ht]

theorem unreachable_blind : RateBlind unreachable := fun _ => rfl

theorem flushPhase_blind : RateBlind flushPhase := by
  intro s
  rw [flushPhase, flushPhase, linkFlush_forgetRates, forgetRates_lineAnswer, ← afterPrimitive_forgetRates]
  cases s.lineAnswer <;> rfl

theorem writePhase_blind {sent : State → State} (hsent : ∀ s, sent (forgetRates s) = forgetRates (sent s)) :
    RateBlind (writePhase sent) := by
  intro s
  unfold writePhase
  rw [forgetRates_txf]
  cases s.txf with
  | none => rfl
  | some f =>
    dsimp only
    rw [linkWrite_forgetRates, forgetRates_lineAnswer, ← afterPrimitive_forgetRates]
    cases s.lineAnswer with
    | ok => exact congrArg (fun u => afterPrimitive _ (.next u)) (hsent (dropFrame (linkWrite f s)))
    | disconnected => rfl

theorem readPhase_blind {n : Nat} {got got' : List Byte → Answer} {s : State}
    (hgot : ∀ c, got' c = forgetRatesOf (got c)) :
    readPhase n got' (forgetRates s) = forgetRatesOf (readPhase n got s) := by
  unfold readPhase
  rw [forgetRates_readAnswer, linkRead_forgetRates]
  cases s.readAnswer n with
  | disconnected => exact afterPrimitive_forgetRates _ (.next (ioError (linkRead n s)))
  | chunk c =>
    dsimp only
    split
    · rfl
    · rw [hgot c]; exact afterPrimitive_forgetRates _ _

theorem readResponse_blind : RateBlind readResponse := by
  intro s
  refine readPhase_blind fun c => ?_
  rw [linkRead_forgetRates]
  cases c <;> rfl

theorem completeFrame_blind : RateBlind completeFrame := by
  intro s
  unfold completeFrame
  rw [forgetRates_frameSpec, forgetRates_buf]
  split
  · split <;> rfl
  · rfl

theorem afterAppend_blind (size : Nat) : RateBlind (afterAppend size) := by
  intro s
  rw [afterAppend_eq, afterAppend_eq, forgetRates_len]
  split
  · rfl
  · exact completeFrame_blind s

theorem accumulate_blind (size : Nat) : RateBlind (accumulate size) := by
  intro s
  refine readPhase_blind fun c => ?_
  rw [linkRead_forgetRates, forgetRates_len]
  split
  · rfl
  · exact afterAppend_blind size (appendChunk c (linkRead (size - s.len.toNat) s))

theorem accumPhase_blind : RateBlind accumPhase := by
  intro s
  unfold accumPhase
  rw [forgetRates_frameSpec, forgetRates_len]
  split
  · rfl
  · split
    · exact accumulate_blind _ s
    · exact completeFrame_blind s

theorem acceptCommand_blind (argsOk : Bool) (f : List Byte) : RateBlind (acceptCommand argsOk f) := by
  intro s
  unfold acceptCommand
  rw [forgetRates_sess]
  split
  · rfl
  · split
    · rfl
    · exact flushPhase_blind (loadFrame f s)

theorem resumeCommand_blind {sent : State → State} {resp accum : State → Answer}
    (hsent : ∀ s, sent (forgetRates s) = forgetRates (sent s)) (hresp : RateBlind resp) (haccum : RateBlind accum) :
    RateBlind (resumeCommand sent resp accum) := by
  intro s
  unfold resumeCommand
  rw [forgetRates_fsm]
  cases s.fsm
  case flush => exact flushPhase_blind s
  case tx => exact writePhase_blind hsent s
  case resp => exact hresp s
  case accum => exact haccum s
  all_goals rfl

/-- An operation as the step relates it: BAUD and T_READ of the next state may be the operation's own (OPEN), but nothing else
depends on those it found. -/
def RateFree (act : State → Answer) : Prop := ∀ s, forgetRatesOf (act (forgetRates s)) = forgetRatesOf (act s)

@[simp] theorem forgetRatesOf_idem (a : Answer) : forgetRatesOf (forgetRatesOf a) = forgetRatesOf a := by
  cases a <;> rfl

theorem RateBlind.free {act : State → Answer} (h : RateBlind act) : RateFree act := fun s => by
  rw [h s, forgetRatesOf_idem]

theorem operate_free {i : Instr} {accept resume : State → Answer} (haccept : RateFree accept)
    (hresume : RateFree resume) : RateFree (operate i accept resume) := by
  intro s
  unfold operate
  rw [forgetRates_fault, forgetRates_fsm, forgetRates_cur]
  split
  · rfl
  · split
    · exact haccept (latch i s)
    · split
      · exact hresume s
      · rfl

theorem execRegWrite_free (reg value : Word) : RateFree (execRegWrite reg value) :=
  operate_free (acceptCommand_blind _ _).free
    (resumeCommand_blind (sent := regWriteSent) (fun _ => rfl) unreachable_blind unreachable_blind).free

theorem execRegRead_free (reg : Word) : RateFree (execRegRead reg) :=
  operate_free (acceptCommand_blind _ _).free
    (resumeCommand_blind (sent := regReadSent) (fun _ => rfl) readResponse_blind unreachable_blind).free

theorem execCapture_free : RateFree execCapture :=
  operate_free (acceptCommand_blind _ _).free
    (resumeCommand_blind (sent := captureSent) (fun _ => rfl) unreachable_blind accumPhase_blind).free

/-- OPEN overwrites BAUD and T_READ, and hands the link the request's own (R30, R31). -/
theorem acceptOpen_free (w h : Word) (baud timeout : Option Word) : RateFree (acceptOpen w h baud timeout) := by
  intro s
  unfold acceptOpen
  rw [forgetRates_params, forgetRates_sess]
  split
  · rfl
  · split
    · rfl
    · unfold openLink
      rw [forgetRates_openAnswer, linkOpen_forgetRates]
      split <;> rfl

theorem useResponse_free (x : Helper) (r : Response) : RateFree (useResponse x r) := by
  intro s
  unfold useResponse
  split
  · rfl
  · split
    · split
      · unfold useValue
        split
        · exact execRegWrite_free _ _ (awaiting { x with phase := .awaitWrite } s)
        · exact execRegWrite_free _ _ (awaiting { x with phase := .awaitWrite } s)
        · rfl
      · rfl
    · rfl

theorem runHelper_free (op : HelperOp) (reg bit : Word) : RateFree (runHelper op reg bit) := by
  intro s
  unfold runHelper
  rw [forgetRates_fault, forgetRates_fsm, forgetRates_helper]
  split
  · rfl
  · split
    · rfl
    · split
      · unfold startHelper
        split
        · exact execRegRead_free reg (awaiting ⟨op, reg, bit, .awaitRead⟩ s)
        · rfl
      · split
        · unfold continueHelper
          rw [forgetRates_rsp]
          split
          · exact useResponse_free _ _ s
          · rfl
        · rfl

theorem exec_free (i : Instr) : RateFree (exec i) := by
  intro s
  cases i with
  | openSession w h baud timeout => exact operate_free (acceptOpen_free w h baud timeout) unreachable_blind.free s
  | close => exact operate_free (fun _ => rfl) unreachable_blind.free s
  | regWrite reg value => exact execRegWrite_free reg value s
  | regRead reg => exact execRegRead_free reg s
  | capture => exact execCapture_free s
  | pixConv v =>
    show forgetRatesOf (execPixConv v (forgetRates s)) = forgetRatesOf (execPixConv v s)
    unfold execPixConv
    rw [forgetRates_fault]
    split <;> rfl
  | setBit reg bit => exact runHelper_free .set reg bit s
  | clearBit reg bit => exact runHelper_free .clear reg bit s
  | getBit reg bit => exact runHelper_free .get reg bit s

/-! ## The step -/

theorem hostTurn_free : RateFree hostTurn := by
  intro s
  unfold hostTurn
  rw [forgetRates_helper]
  split
  · exact exec_free _ s
  · unfold offerNext
    rw [forgetRates_hostReq]
    split
    · rfl
    · split
      · exact exec_free _ (leaveLines _ s)
      · rfl

theorem inFlight_free : RateFree inFlight := by
  intro s
  unfold inFlight
  rw [forgetRates_fsm, forgetRates_cur]
  split
  · rfl
  · rfl
  · exact exec_free _ s
  · rfl

theorem proceed_free : RateFree proceed := by
  intro s
  unfold proceed
  rw [forgetRates_fsm]
  split
  · exact hostTurn_free s
  · exact inFlight_free s

theorem passed_forgetRatesOf (a : Answer) : passed (forgetRatesOf a) = forgetRatesOf (passed a) := by
  cases a <;> rfl

theorem tearAfter_forgetRatesOf (a : Answer) : tearAfter (forgetRatesOf a) = forgetRatesOf (tearAfter a) := by
  cases a with
  | next t =>
    show tearAfter (.next (forgetRates t)) = _
    unfold tearAfter
    dsimp only
    rw [forgetRates_fault]
    split <;> rfl
  | fault f => rfl
  | refused r => rfl

theorem step_free : RateFree step := by
  intro s
  unfold step advance
  rw [forgetRates_signal, forgetRates_fault]
  split
  · rfl
  · split <;> rfl
  · split
    · rfl
    · rw [← tearAfter_forgetRatesOf, proceed_free s, tearAfter_forgetRatesOf]
  · split
    · rfl
    · rw [← passed_forgetRatesOf, proceed_free s, passed_forgetRatesOf]

end Sys2Proof.Safety
end

section
/-! SUPPORT. The statements about the state: reset, faults, the scale tables, the invariant and the whole-machine rules, each
settled from the lemmas above. -/

namespace Sys2Proof.Proofs

open Sys2Proof.Machine Sys2Proof.Safety

/-! ## Reset and faults -/

/-- Settles O47: the fields of the reset state, by evaluation. -/
theorem resetValues : Obligations.ResetValues :=
  ⟨rfl, rfl, rfl, rfl, rfl, rfl, rfl, rfl, read_nil, rfl, rfl, rfl, rfl⟩

/-- The invariant holds at reset: SESS is 0, FSM is IDLE and nothing is in flight (R41). -/
theorem reset_coherent : Coherent State.reset where
  bufCanonical := reset_buf_wf
  session hs := by cases hs
  work := ⟨rfl, rfl, rfl, rfl⟩
  helper x hx := by cases hx
  responses r hr := by cases hr
  reachable := nofun

/-- Settles O50: the invariant by its clauses, the history because it is empty. -/
theorem resetMeetsTheInvariants : Obligations.ResetMeetsTheInvariants :=
  ⟨reset_coherent, ⟨rfl, nofun⟩, rfl⟩

/-- Settles O45, by the step lemmas for a fault and for a reset. -/
theorem faultIsStickyUntilReset : Obligations.FaultIsStickyUntilReset := by
  intro s f hf
  exact ⟨by simp [State.ready, hf], step_fault hf, fun hsig => ⟨_, step_reset hsig, resetSce_fault _⟩⟩

/-- FSM at 6 or 7 is UNREACHABLE_FSM whatever is latched (R24, R38). -/
theorem proceed_reserved {s : State} (h : s.fsm = .reserved6 ∨ s.fsm = .reserved7) :
    proceed s = .next (raiseFault .unreachableFsm s) := by
  rcases h with h | h <;> simp [proceed, inFlight, h, unreachable_eq]

/-- CAPTURE's loop without a FrameSpec to read is UNREACHABLE_FSM (R28, R42). -/
theorem proceed_accum_undefined {s : State} (hfault : s.fault = none) (hfsm : s.fsm = .accum)
    (hcur : s.cur = some .capture) (h : s.sess = false ∨ s.width = none ∨ s.height = none) :
    proceed s = .next (raiseFault .unreachableFsm s) := by
  have hexec : exec .capture s = accumPhase s := operate_accum hfault hfsm hcur
  rw [proceed_flight (by simp [hfsm]) (by simp [hfsm]) (by simp [hfsm]) hcur, hexec]
  refine accumPhase_none (h.imp_right fun hdim => ?_)
  rcases hdim with hdim | hdim <;> simp [State.byteSize, hdim]

/-- Settles O46: in both cases the step raises the fault and passes the boundary. -/
theorem reservedFsmIsUnreachable : Obligations.ReservedFsmIsUnreachable := by
  intro s hfault hsig
  rw [step_quiet hfault hsig]
  constructor
  · intro hfsm
    rw [proceed_reserved hfsm]; rfl
  · intro hfsm hcur hspec
    rw [proceed_accum_undefined hfault hfsm hcur hspec]; rfl

/-- Settles O9, by the step lemmas for the two signals and `proceed_flight`. -/
theorem stepRunsTheOperationInFlight : Obligations.StepRunsTheOperationInFlight := by
  intro s i hfault hidle h6 h7 hcur
  have hproceed : proceed s = exec i s := proceed_flight hidle h6 h7 hcur
  exact ⟨fun hq => by rw [step_quiet hfault hq, hproceed], fun ht => by rw [step_torn hfault ht, hproceed]⟩

/-! ## The scale tables -/

/-- The rescale to 8 bits does not overflow its byte (R118). -/
theorem scale5_toNat (x : BitVec 5) : (scale5 x).toNat = x.toNat * 255 / 31 := by
  have := x.isLt
  rw [scale5, BitVec.toNat_ofNat]
  omega

theorem scale6_toNat (x : BitVec 6) : (scale6 x).toNat = x.toNat * 255 / 63 := by
  have := x.isLt
  rw [scale6, BitVec.toNat_ofNat]
  omega

/-- Settles O34: the tables by their finitely many entries, the order because a step of one in the channel is a step of more
than one in the rescale. -/
theorem scaleTablesHoldAStrictlyIncreasingRescale : Obligations.ScaleTablesHoldAStrictlyIncreasingRescale := by
  refine ⟨rfl, rfl, by decide, by decide, rfl, rfl, rfl, rfl, fun x y hxy => ?_, fun x y hxy => ?_⟩
  · rw [scale5_toNat, scale5_toNat]
    omega
  · rw [scale6_toNat, scale6_toNat]
    omega

/-! ## The invariant and the whole-machine rules -/

/-- Settles O51: the step lemma of the invariant, by the signal at the boundary and by what the step does between its two
boundaries. -/
theorem stepKeepsTheInvariant : Obligations.StepKeepsTheInvariant := fun _ _ => step_coherent

/-- Settles O54, by the totality of every operation. -/
theorem everyLinkAnswerLeadsToANextState : Obligations.EveryLinkAnswerLeadsToANextState := fun _ => step_hasNext

/-- Settles O55: no step but a reset writes the session registers, and OPEN's checks end it before the link. -/
theorem frameSpecIsImmutableInASession : Obligations.FrameSpecIsImmutableInASession := by
  intro s hsess
  refine ⟨fun t hsig hstep => (step_grown hsig hstep).session hsess, fun hready w h baud timeout => ?_⟩
  refine ⟨_, ?_, exec_open_rejected hready hsess w h baud timeout⟩
  cases supported s.params w h <;> simp

/-- Settles O56: what an operation adds, and what a teardown at the boundary after it still can. -/
theorem historyOnlyGrows : Obligations.HistoryOnlyGrows := by
  intro s t hsig hstep
  have hgrown := step_grown hsig hstep
  exact ⟨hgrown.hist, hgrown.rsp, hgrown.params⟩

/-- Settles O57: the step of either state is, but for the two registers, the step of their common remainder. -/
theorem ratesDecideNothing : Obligations.RatesDecideNothing := by
  intro s u h
  calc forgetRatesOf (step s)
      = forgetRatesOf (step (forgetRates s)) := (step_free s).symm
    _ = forgetRatesOf (step (forgetRates u)) := by rw [h]
    _ = forgetRatesOf (step u) := step_free u

end Sys2Proof.Proofs
end

section
/-! SUPPORT. BUF and FrameDecode: what a converted buffer holds cell by cell, how a CAPTURE in its loop fills BUF chunk by
chunk, and the two statements about them. -/

namespace Sys2Proof.Machine

/-! ## FrameDecode cell by cell -/

/-- Byte order of a sample: the lower offset is the less significant byte (R51). -/
theorem sampleOf_toNat (lo hi : Byte) : (sampleOf lo hi).toNat = lo.toNat + 256 * hi.toNat := by
  have hlo := lo.isLt
  have hhi := hi.isLt
  have hshift : (hi.setWidth 16 <<< 8 : Sample).toNat = 2 ^ 8 * hi.toNat := by
    rw [BitVec.toNat_shiftLeft, BitVec.toNat_setWidth, Nat.shiftLeft_eq]
    omega
  have hwide : (lo.setWidth 16 : Sample).toNat = lo.toNat := by
    rw [BitVec.toNat_setWidth]
    omega
  rw [sampleOf, BitVec.toNat_or, hshift, hwide, Nat.or_comm, ← Nat.two_pow_add_eq_or_of_lt hlo]
  omega

theorem read16_some_iff {m : Memory} {a : Nat} {v : Sample} :
    Memory.read16 m a = some v ↔
      ∃ lo hi, Memory.read m a = some lo ∧ Memory.read m (a + 1) = some hi ∧ sampleOf lo hi = v := by
  unfold Memory.read16
  cases Memory.read m a <;> cases Memory.read m (a + 1) <;> simp

/-- A conversion succeeds when its first sample is written and the conversion of the others succeeds (R42, R123). -/
theorem convertFrom_succ_some_iff {m : Memory} {k i : Nat} {ps : List Pixel} :
    convertFrom m (k + 1) i = some ps ↔
      ∃ v rest, Memory.read16 m (2 * i) = some v ∧ convertFrom m k (i + 1) = some rest ∧ ps = pixelOf v :: rest := by
  rw [convertFrom]
  cases Memory.read16 m (2 * i) <;> cases convertFrom m k (i + 1) <;> simp [eq_comm]

theorem convertFrom_length {m : Memory} {k i : Nat} {ps : List Pixel} (h : convertFrom m k i = some ps) :
    ps.length = k := by
  induction k generalizing i ps with
  | zero => cases h; rfl
  | succ k ih =>
    obtain ⟨v, rest, -, hrest, rfl⟩ := convertFrom_succ_some_iff.mp h
    simp [ih hrest]

/-- The pixels stand in the order of their samples in BUF, each the conversion of its own (R123). -/
theorem convertFrom_getElem {m : Memory} {k i : Nat} {ps : List Pixel} (h : convertFrom m k i = some ps) {j : Nat}
    (hj : j < k) : ∃ v, Memory.read16 m (2 * (i + j)) = some v ∧ ps[j]? = some (pixelOf v) := by
  induction k generalizing i j ps with
  | zero => omega
  | succ k ih =>
    obtain ⟨v, rest, hv, hrest, rfl⟩ := convertFrom_succ_some_iff.mp h
    cases j with
    | zero => exact ⟨v, hv, rfl⟩
    | succ j =>
      obtain ⟨u, hu, hget⟩ := ih hrest (show j < k by omega)
      exact ⟨u, by rwa [show i + (j + 1) = i + 1 + j by omega], by simpa using hget⟩

theorem frameDecode_some_iff {w h : Nat} {m : Memory} {img : Image} :
    frameDecode w h m = some img ↔
      ∃ pixels, convertFrom m (w * h) 0 = some pixels ∧ img = { width := w, height := h, pixels := pixels } := by
  unfold frameDecode
  cases convertFrom m (w * h) 0 <;> simp [eq_comm]

/-- FrameDecode reads every byte of the frame, so it gives no image when one is unwritten (R42). -/
theorem read_isSome_of_frameDecode {w h : Nat} {m : Memory} {img : Image} (hd : frameDecode w h m = some img) {a : Nat}
    (ha : a < 2 * (w * h)) : (Memory.read m a).isSome = true := by
  obtain ⟨pixels, hconv, -⟩ := frameDecode_some_iff.mp hd
  obtain ⟨v, hv, -⟩ := convertFrom_getElem hconv (show a / 2 < w * h by omega)
  obtain ⟨lo, hi, hlo, hhi, -⟩ := read16_some_iff.mp hv
  rcases Nat.mod_two_eq_zero_or_one a with heven | hodd
  · rw [show a = 2 * (0 + a / 2) by omega, hlo]; rfl
  · rw [show a = 2 * (0 + a / 2) + 1 by omega, hhi]; rfl

/-- The image cell of pixel `i` in row-major order (R49). -/
theorem imageAt_div_mod {img : Image} {i : Nat} (hi : i < img.width * img.height) :
    imageAt img (i / img.width) (i % img.width) = img.pixels[i]? := by
  have hwidth : 0 < img.width := Nat.pos_of_mul_pos_right (Nat.zero_lt_of_lt hi)
  rw [imageAt, if_pos ⟨Nat.div_lt_of_lt_mul hi, Nat.mod_lt i hwidth⟩, Nat.div_add_mod']

/-- A frame laid out from offset 0 decodes to an image (R60, R123). -/
theorem frameDecode_layout_isSome {w h : Word} {d : List Byte} (hd : d.length = byteSizeOf w h) :
    (frameDecode w.toNat h.toNat (Memory.layout 0 d)).isSome = true := by
  refine frameDecode_isSome fun a ha => ?_
  have hin : a < d.length := by omega
  simp [read_layout, hin]

/-! ## Runs with no signal -/

@[simp] theorem takeAnswer_link (s : State) : s.takeAnswer.link = s.link.tail := by
  unfold State.takeAnswer
  split <;> simp [*]

/-- A step with an empty tape of signals is what the machine does between its two boundaries. -/
theorem step_of_signals_nil {s t : State} (hfault : s.fault = none) (hsig : s.signals = [])
    (hstep : proceed s = .next t) (ht : t.signals = []) : step s = .next t := by
  have hpass : t.passSignal = t := by
    cases t
    cases ht
    rfl
  rw [step_quiet hfault (by simp [State.signal, hsig]), hstep, passed_next, hpass]

theorem run_zero (s : State) : Host.Core.run Sys2Proof.core 0 s = .next s := rfl

/-- A run begins with a step. -/
theorem run_succ {s t : State} (h : step s = .next t) (k : Nat) :
    Host.Core.run Sys2Proof.core (k + 1) s = Host.Core.run Sys2Proof.core k t := by
  have hcore : Sys2Proof.core.step s = .next t := h
  simp only [Host.Core.run, hcore]

/-! ## A CAPTURE in its loop -/

/-- A CAPTURE in its accumulation loop, with no signal to come, that has received the bytes `d` of a `w` by `h` frame. -/
structure Accumulating (w h : Word) (d : List Byte) (s : State) : Prop where
  fault : s.fault = none
  signals : s.signals = []
  sess : s.sess = true
  fsm : s.fsm = .accum
  cur : s.cur = some .capture
  width : s.width = some w
  height : s.height = some h
  len : s.len.toNat = d.length
  buf : s.buf = Memory.layout 0 d

/-- `t` is where a CAPTURE that was under way at `s` ends with the image, its link script used up to `rest`. -/
structure Captured (img : Image) (rest : List LinkAnswer) (s t : State) : Prop where
  rsp : t.rsp = s.rsp ++ [{ status := .ok, image := some img }]
  sess : t.sess = true
  fsm : t.fsm = .idle
  len : t.len = 0
  buf : t.buf = []
  link : t.link = rest
  hostReq : t.hostReq = s.hostReq

section

variable {w h : Word} {d c : List Byte} {s : State} {rest : List LinkAnswer}

/-- Appending a chunk at LEN goes on from the bytes received before it (R60, R108). -/
theorem Accumulating.append (hs : Accumulating w h d s) (hlen : d.length + c.length < 2 ^ 32) (n : Nat) :
    Accumulating w h (d ++ c) (appendChunk c (linkRead n s)) where
  fault := by simpa using hs.fault
  signals := by simpa using hs.signals
  sess := by simpa using hs.sess
  fsm := by simpa using hs.fsm
  cur := by simpa using hs.cur
  width := by simpa using hs.width
  height := by simpa using hs.height
  len := by
    rw [appendChunk_len, linkRead_len, len_add (by rwa [hs.len]), hs.len, List.length_append]
  buf := by
    rw [appendChunk_buf, linkRead_len, linkRead_buf, hs.len, hs.buf, write_layout]

/-- A step of the loop on a non-empty chunk within the remaining count appends it (R105, R107, R108). -/
theorem Accumulating.proceed_chunk (hs : Accumulating w h d s) (hlink : s.link = .done c :: rest) (hc : c ≠ [])
    (hfit : d.length + c.length ≤ byteSizeOf w h) :
    proceed s =
      afterAppend (byteSizeOf w h) (appendChunk c (linkRead (byteSizeOf w h - s.len.toNat) s)) := by
  have hpos : 0 < c.length := List.length_pos_of_ne_nil hc
  have hlen := hs.len
  have hsize : s.byteSize = some (byteSizeOf w h) := byteSize_some_iff.mpr ⟨w, h, hs.width, hs.height, rfl⟩
  have hexec : exec .capture s = accumPhase s := operate_accum hs.fault hs.fsm hs.cur
  rw [proceed_flight (by simp [hs.fsm]) (by simp [hs.fsm]) (by simp [hs.fsm]) hs.cur, hexec,
    accumPhase_some hs.sess hsize, if_pos (by omega), accumulate_use (torn_of_signals_nil hs.signals),
    readAnswer_done hlink]
  simp only [hc, if_false, if_neg (show ¬ byteSizeOf w h - s.len.toNat < c.length by omega)]

/-- A chunk that leaves bytes missing leaves the loop under way (R111). -/
theorem Accumulating.step_more (hs : Accumulating w h d s) (hlink : s.link = .done c :: rest) (hc : c ≠ [])
    (hmore : d.length + c.length < byteSizeOf w h) (hsize : byteSizeOf w h < 2 ^ 32) :
    ∃ t, step s = .next t ∧ Accumulating w h (d ++ c) t ∧ t.rsp = s.rsp ∧ t.link = rest ∧ t.hostReq = s.hostReq := by
  have hnext := hs.append (c := c) (by omega) (byteSizeOf w h - s.len.toNat)
  refine ⟨_, step_of_signals_nil hs.fault hs.signals ?_ hnext.signals, hnext, ?_, ?_, ?_⟩
  · have hlen := hnext.len
    rw [List.length_append] at hlen
    rw [hs.proceed_chunk hlink hc hmore.le, afterAppend_eq, if_pos (by omega)]
  all_goals simp [hlink]

/-- The chunk that completes the frame ends the CAPTURE with OK and the frame's image (R105, R109, R123). -/
theorem Accumulating.step_last (hs : Accumulating w h d s) (hlink : s.link = .done c :: rest) (hc : c ≠ [])
    (hlast : d.length + c.length = byteSizeOf w h) (hsize : byteSizeOf w h < 2 ^ 32) {img : Image}
    (himg : frameDecode w.toNat h.toNat (Memory.layout 0 (d ++ c)) = some img) :
    ∃ t, step s = .next t ∧ Captured img rest s t := by
  have hnext := hs.append (c := c) (by omega) (byteSizeOf w h - s.len.toNat)
  have hlen := hnext.len
  rw [List.length_append] at hlen
  have hproceed : proceed s = .next (respond { status := .ok, image := some img }
      (clearWork (appendChunk c (linkRead (byteSizeOf w h - s.len.toNat) s)))) := by
    rw [hs.proceed_chunk hlink hc hlast.le, afterAppend_eq, if_neg (by omega)]
    exact completeFrame_some hnext.sess hnext.width hnext.height (by rw [hnext.buf, himg])
  exact ⟨_, step_of_signals_nil hs.fault hs.signals hproceed (by simpa using hs.signals),
    by simp, by simpa using hs.sess, by simp, by simp, by simp, by simp [hlink], by simp⟩

end

/-- The loop over the chunks still to come: the bytes received at each point are the same however they were cut, so the image
is FrameDecode of their concatenation (R52, R60). -/
theorem Accumulating.run_chunks {w h : Word} {d : List Byte} {s : State} {chunks : List (List Byte)}
    {rest : List LinkAnswer} {img : Image} (hs : Accumulating w h d s) (hsize : byteSizeOf w h < 2 ^ 32)
    (hlink : s.link = chunks.map .done ++ rest) (hne : ∀ c ∈ chunks, c ≠ []) (hmissing : d.length < byteSizeOf w h)
    (htotal : (d ++ chunks.flatten).length = byteSizeOf w h)
    (himg : frameDecode w.toNat h.toNat (Memory.layout 0 (d ++ chunks.flatten)) = some img) :
    ∃ t, Host.Core.run Sys2Proof.core chunks.length s = .next t ∧ Captured img rest s t := by
  induction chunks generalizing d s with
  | nil => simp at htotal; omega
  | cons c chunks ih =>
    obtain ⟨hc, hne⟩ := List.forall_mem_cons.mp hne
    rw [List.flatten_cons, ← List.append_assoc] at htotal himg
    have hlengths : d.length + c.length + chunks.flatten.length = byteSizeOf w h := by
      rw [← htotal, List.length_append, List.length_append]
    by_cases hmore : d.length + c.length < byteSizeOf w h
    · obtain ⟨u, hstep, hu, hrsp, hrest, hlines⟩ := hs.step_more hlink hc hmore hsize
      obtain ⟨t, hrun, ht⟩ := ih hu hrest hne (by simpa using hmore) htotal himg
      exact ⟨t, by rw [List.length_cons, run_succ hstep, hrun],
        { ht with rsp := by rw [ht.rsp, hrsp], hostReq := by rw [ht.hostReq, hlines] }⟩
    · obtain rfl : chunks = [] := by
        have hflat : chunks.flatten = [] := List.eq_nil_of_length_eq_zero (by omega)
        exact List.eq_nil_iff_forall_not_mem.mpr fun x hx => hne x hx (List.flatten_eq_nil_iff.mp hflat x hx)
      simp only [List.flatten_nil, List.append_nil] at htotal himg
      obtain ⟨t, hstep, ht⟩ := hs.step_last hlink hc (by simpa using htotal) hsize himg
      exact ⟨t, by rw [List.length_singleton, run_succ hstep, run_zero], ht⟩

/-! ## From READY to the loop -/

/-- In state TX a CAPTURE whose write is answered Ok enters its loop with nothing received (R97, R105, R106). -/
theorem step_capture_sent {s : State} {w h : Word} {f b : List Byte} {rest : List LinkAnswer} (hfault : s.fault = none)
    (hsig : s.signals = []) (hfsm : s.fsm = .tx) (hcur : s.cur = some .capture) (htxf : s.txf = some f)
    (hsess : s.sess = true) (hw : s.width = some w) (hh : s.height = some h) (hlink : s.link = .done b :: rest) :
    ∃ t, step s = .next t ∧ Accumulating w h [] t ∧ t.rsp = s.rsp ∧ t.link = rest ∧ t.hostReq = s.hostReq := by
  refine ⟨captureSent (dropFrame (linkWrite f s)), step_of_signals_nil hfault hsig ?_ (by simpa using hsig), ?_, ?_⟩
  · have hexec : exec .capture s = writePhase captureSent s := operate_tx hfault hfsm hcur
    rw [proceed_flight (by simp [hfsm]) (by simp [hfsm]) (by simp [hfsm]) hcur, hexec,
      writePhase_some (torn_of_signals_nil hsig) htxf, if_pos (lineAnswer_done hlink)]
  · constructor <;> simp [Memory.layout, *]
  · simp [hlink]

/-- READY with a session, a CAPTURE offered and a flush answered Ok: the command is accepted and its frame latched (R97). -/
theorem step_capture_accepted {s : State} {a : List Byte} {rest : List LinkAnswer} {lines : List HostLine}
    (hready : s.ready = true) (hhelper : s.helper = none) (hsig : s.signals = [])
    (hreq : s.hostReq = encode .capture :: lines) (hsess : s.sess = true) (hlink : s.link = .done a :: rest) :
    step s = .next (toTx (linkFlush (loadFrame encCapture (latch .capture (leaveLines lines s))))) := by
  obtain ⟨hidle, hfault⟩ := (ready_iff s).mp hready
  refine step_of_signals_nil hfault hsig ?_ (by simpa using hsig)
  rw [proceed_offer hidle hhelper hreq rfl, exec_command_idle rfl (by simpa using hfault) (by simpa using hidle),
    show Instr.capture.wf = true from rfl, acceptCommand_open (by simpa using hsess),
    flushPhase_eq (by simpa using torn_of_signals_nil hsig),
    if_pos (lineAnswer_done (by simpa using hlink))]

end Sys2Proof.Machine

namespace Sys2Proof.Proofs

open Sys2Proof.Machine

/-- Settles O36: the cells are the pixels of the conversion in row-major order, and the conversion reads every byte. -/
theorem frameDecodeIsRowMajorAndLittleEndian : Obligations.FrameDecodeIsRowMajorAndLittleEndian := by
  intro w h m
  constructor
  · intro hwritten
    obtain ⟨pixels, hconv⟩ := Option.isSome_iff_exists.mp
      (convertFrom_isSome (m := m) (k := w * h) (i := 0) (by simpa using hwritten))
    refine ⟨_, frameDecode_some_iff.mpr ⟨pixels, hconv, rfl⟩, rfl, rfl, convertFrom_length hconv, ?_⟩
    intro i lo hi hlt hlo hhi
    obtain ⟨v, hv, hpixel⟩ := convertFrom_getElem hconv hlt
    rw [Nat.zero_add, read16_of_read hlo hhi] at hv
    cases hv
    exact ⟨_, sampleOf_toNat lo hi, (imageAt_div_mod (img := ⟨w, h, pixels⟩) hlt).trans hpixel⟩
  · rintro ⟨a, ha, hnone⟩
    refine Option.eq_none_iff_forall_ne_some.mpr fun img hd => ?_
    have hsome := read_isSome_of_frameDecode hd ha
    simp [hnone] at hsome

/-- Settles O30: one step for the flush, one for the write, then the loop by induction on the chunks. -/
theorem capturedImageDoesNotDependOnChunking : Obligations.CapturedImageDoesNotDependOnChunking := by
  intro s w h a b chunks rest lines hready hhelper hsig hreq hsess hw hh hpos hsize hlink hne htotal
  obtain ⟨img, himg⟩ := Option.isSome_iff_exists.mp (frameDecode_layout_isSome htotal)
  have hfault := ((ready_iff s).mp hready).2
  have haccept := step_capture_accepted hready hhelper hsig hreq hsess hlink
  obtain ⟨u, hsent, hu, hrsp, hrest, hlines⟩ :=
    step_capture_sent (s := toTx (linkFlush (loadFrame encCapture (latch .capture (leaveLines lines s)))))
      (w := w) (h := h) (f := encCapture) (b := b) (rest := chunks.map .done ++ rest)
      (by simpa using hfault) (by simpa using hsig) (by simp) (by simp) (by simp) (by simpa using hsess)
      (by simpa using hw) (by simpa using hh) (by simp [hlink])
  obtain ⟨t, hrun, ht⟩ := hu.run_chunks hsize hrest hne (by simpa using hpos) (by simpa using htotal) himg
  refine ⟨t, img, ?_, himg, ?_, ht.sess, ht.fsm, ht.len, ht.buf, ht.link, ?_⟩
  · rw [Nat.add_comm, run_succ haccept, run_succ hsent, hrun]
  · rw [ht.rsp, hrsp]; simp
  · rw [ht.hostReq, hlines]; simp

end Sys2Proof.Proofs
end

section
/-! SUPPORT. The encodings: command frames and their decoder, the frame word of R65, request records and the packed pixel, and
the statements about them. -/

namespace Sys2Proof

/-! ## Command frames -/

/-- A byte stream whose head is a frame W3 (R66). -/
theorem decodeFrame_write (reg value : Byte) (rest : List Byte) :
    decodeFrame (0xAA :: reg :: value :: rest) = .ok (.regWrite (zextWord reg) (zextWord value), rest) := rfl

/-- A byte stream whose head is a frame R2 (R67). -/
theorem decodeFrame_read (reg : Byte) (rest : List Byte) :
    decodeFrame (0xBB :: reg :: rest) = .ok (.regRead (zextWord reg), rest) := rfl

/-- A byte stream whose head is a frame C1 (R68). -/
theorem decodeFrame_capture (rest : List Byte) : decodeFrame (0xCC :: rest) = .ok (.capture, rest) := rfl

/-- Everything the frame decoder accepts: the three formats, by their first byte (R75, R76). -/
theorem decodeFrame_cases {bytes rest : List Byte} {i : Instr} (h : decodeFrame bytes = .ok (i, rest)) :
    (∃ reg value, bytes = 0xAA :: reg :: value :: rest ∧ i = .regWrite (zextWord reg) (zextWord value)) ∨
      (∃ reg, bytes = 0xBB :: reg :: rest ∧ i = .regRead (zextWord reg)) ∨
      (bytes = 0xCC :: rest ∧ i = .capture) := by
  unfold decodeFrame at h
  split at h
  · cases h
  · rename_i b tail
    split at h
    · obtain rfl : b = 0xAA := BitVec.eq_of_toNat_eq ‹_›
      split at h <;> cases h
      exact .inl ⟨_, _, rfl, rfl⟩
    · obtain rfl : b = 0xBB := BitVec.eq_of_toNat_eq ‹_›
      split at h <;> cases h
      exact .inr (.inl ⟨_, rfl, rfl⟩)
    · obtain rfl : b = 0xCC := BitVec.eq_of_toNat_eq ‹_›
      cases h
      exact .inr (.inr ⟨rfl, rfl⟩)
    · cases h

/-- The three commands and their frames (R82, R96). -/
theorem encodeFrame_cases {i : Instr} {f : List Byte} (h : encodeFrame i = some f) :
    (∃ reg value, i = .regWrite reg value ∧ f = encWrite reg value) ∨ (∃ reg, i = .regRead reg ∧ f = encRead reg) ∨
      (i = .capture ∧ f = encCapture) := by
  cases i with
  | regWrite reg value => cases h; exact .inl ⟨reg, value, rfl, rfl⟩
  | regRead reg => cases h; exact .inr (.inl ⟨reg, rfl, rfl⟩)
  | capture => cases h; exact .inr (.inr ⟨rfl, rfl⟩)
  | _ => cases h

/-- A well-formed command's operands are not truncated into its frame, so its frame decodes to it (R73, R76). -/
theorem decodeFrame_encodeFrame {i : Instr} {f : List Byte} (hwf : i.wf = true) (hf : encodeFrame i = some f)
    (rest : List Byte) : decodeFrame (f ++ rest) = .ok (i, rest) := by
  rcases encodeFrame_cases hf with ⟨reg, value, rfl, rfl⟩ | ⟨reg, rfl, rfl⟩ | ⟨rfl, rfl⟩
  · obtain ⟨hreg, hvalue⟩ := Bool.and_eq_true_iff.mp hwf
    calc decodeFrame (encWrite reg value ++ rest)
        = .ok (.regWrite (zextWord (lowByte reg)) (zextWord (lowByte value)), rest) := decodeFrame_write ..
      _ = .ok (.regWrite reg value, rest) := by rw [zext_lowByte hreg, zext_lowByte hvalue]
  · calc decodeFrame (encRead reg ++ rest)
        = .ok (.regRead (zextWord (lowByte reg)), rest) := decodeFrame_read ..
      _ = .ok (.regRead reg, rest) := by rw [zext_lowByte hwf]
  · exact decodeFrame_capture rest

/-- A line whose whole content is a command's frame (R77). -/
theorem decodeWholeFrame_encodeFrame {i : Instr} {f : List Byte} (hwf : i.wf = true) (hf : encodeFrame i = some f) :
    decodeWholeFrame f = .ok i := by
  have h := decodeFrame_encodeFrame hwf hf []
  rw [List.append_nil] at h
  simp [decodeWholeFrame, h]

/-! ## Frame words -/

/-- The number read so far, `acc`, after the bytes that follow it (R65). -/
def wordFrom (acc : Nat) (bytes : List Byte) : Nat := bytes.foldl (fun acc b => acc * 256 + b.toNat) acc

theorem frameWord_eq (bytes : List Byte) : frameWord bytes = wordFrom 0 bytes := rfl

theorem wordFrom_cons (acc : Nat) (b : Byte) (bytes : List Byte) :
    wordFrom acc (b :: bytes) = wordFrom (acc * 256 + b.toNat) bytes := rfl

/-- The bytes sent after a number lie below it (R65). -/
theorem wordFrom_shiftRight (acc : Nat) (bytes : List Byte) : wordFrom acc bytes >>> (8 * bytes.length) = acc := by
  induction bytes generalizing acc with
  | nil => rfl
  | cons b bytes ih =>
    have hb := b.isLt
    rw [wordFrom_cons, List.length_cons, Nat.mul_add_one 8, Nat.shiftRight_add, ih, Nat.shiftRight_eq_div_pow]
    omega

/-- The bytes of a number are those last read into it (R65). -/
theorem frameBytes_wordFrom (acc : Nat) (bytes : List Byte) : frameBytes bytes.length (wordFrom acc bytes) = bytes := by
  induction bytes generalizing acc with
  | nil => rfl
  | cons b bytes ih =>
    have hbyte : BitVec.ofNat 8 (acc * 256 + b.toNat) = b := by
      have hb := b.isLt
      apply BitVec.eq_of_toNat_eq
      rw [BitVec.toNat_ofNat]
      omega
    rw [wordFrom_cons, List.length_cons, frameBytes, wordFrom_shiftRight, hbyte, ih]

theorem frameBytes_frameWord (bytes : List Byte) : frameBytes bytes.length (frameWord bytes) = bytes :=
  frameBytes_wordFrom 0 bytes

/-- A table word decodes as the line it stands for (log 5). -/
theorem decodeTableWord_some_iff {nbits w : Nat} {i : Instr} :
    decodeTableWord nbits w = some i ↔ decodeLine (tableLine nbits w) = .ok i := by
  unfold decodeTableWord
  cases decodeLine (tableLine nbits w) <;> simp

/-- The frame word of a command stands for the command's frame line: a 16-bit one has 0xBB above its operand, an 8-bit one is
no op field (log 5). -/
theorem tableLine_frameWord {i : Instr} {f : List Byte} (hf : encodeFrame i = some f) :
    tableLine (8 * f.length) (frameWord f) = .frame f := by
  have hline : HostLine.frame (frameBytes (8 * f.length / 8) (frameWord f)) = .frame f := by
    rw [Nat.mul_div_cancel_left _ (by decide), frameBytes_frameWord]
  rcases encodeFrame_cases hf with ⟨reg, value, -, rfl⟩ | ⟨reg, -, rfl⟩ | ⟨-, rfl⟩
  · exact hline
  · have hupper : frameWord (encRead reg) >>> 8 = 0xBB := wordFrom_shiftRight 0xBB [lowByte reg]
    rw [tableLine, if_neg (by simp [encRead]), if_neg (fun h => h.2 hupper)]
    exact hline
  · rfl

/-! ## Request records -/

/-- Op 5, 6 and 7 select no operation (R78). -/
theorem decodeRequest_reserved {r : Request} (h : 5 ≤ r.op.toNat) : decodeRequest r = .error (.reservedOp r.op) := by
  unfold decodeRequest
  split
  case h_6 => rfl
  all_goals omega

/-! ## The packed pixel -/

theorem packPixel_red (p : Machine.Pixel) : (Machine.packPixel p).extractLsb' 16 8 = p.r :=
  (BitVec.extractLsb'_append_eq_of_le (by decide)).trans BitVec.extractLsb'_append_eq_left

theorem packPixel_green (p : Machine.Pixel) : (Machine.packPixel p).extractLsb' 8 8 = p.g :=
  (BitVec.extractLsb'_append_eq_of_le (by decide)).trans BitVec.extractLsb'_append_eq_right

theorem packPixel_blue (p : Machine.Pixel) : (Machine.packPixel p).extractLsb' 0 8 = p.b :=
  BitVec.extractLsb'_append_eq_right

end Sys2Proof

namespace Sys2Proof.Proofs

open Sys2Proof.Machine

/-- Settles O1: the three frames by the decoder's three formats, an operand in range being its own low byte. -/
theorem commandFrameDecodesToItsCommand : Obligations.CommandFrameDecodesToItsCommand :=
  fun _ _ rest hwf hf => decodeFrame_encodeFrame hwf hf rest

/-- Settles O2: by the decoder's three formats, whose operands are zero-extended bytes. -/
theorem decodedFrameIsTheCommandsOwn : Obligations.DecodedFrameIsTheCommandsOwn := by
  intro bytes rest i h
  rcases decodeFrame_cases h with ⟨reg, value, rfl, rfl⟩ | ⟨reg, rfl, rfl⟩ | ⟨rfl, rfl⟩
  · exact ⟨by simp [Instr.wf, inRange8_zext], _, rfl, by simp [encWrite, lowByte_zext]⟩
  · exact ⟨inRange8_zext reg, _, rfl, by simp [encRead, lowByte_zext]⟩
  · exact ⟨rfl, _, rfl, rfl⟩

/-- Settles O3: the frame word stands for the frame as a line, and that line decodes to the command. -/
theorem frameWordOfACommandDecodes : Obligations.FrameWordOfACommandDecodes := by
  intro i f hwf hf
  rw [decodeTableWord_some_iff, tableLine_frameWord hf]
  exact decodeWholeFrame_encodeFrame hwf hf

/-- Settles O4: six closed words, by evaluation. -/
theorem specWordsDecode : Obligations.SpecWordsDecode := ⟨rfl, rfl, rfl, rfl, rfl, rfl⟩

/-- Settles O6: `decodeRequest` looks at the op alone, and takes from the record what that operation uses. -/
theorem requestRecordSelectsItsOperation : Obligations.RequestRecordSelectsItsOperation :=
  fun _ _ _ _ _ _ => ⟨rfl, rfl, rfl, rfl, rfl⟩

/-- Settles O35: the channels are parts of the word, and a pixel is its channels. -/
theorem packedPixelPlacesItsChannels : Obligations.PackedPixelPlacesItsChannels := by
  intro p
  refine ⟨packPixel_red p, packPixel_green p, packPixel_blue p, fun q h => ?_⟩
  have hr : p.r = q.r := by rw [← packPixel_red p, h, packPixel_red q]
  have hg : p.g = q.g := by rw [← packPixel_green p, h, packPixel_green q]
  have hb : p.b = q.b := by rw [← packPixel_blue p, h, packPixel_blue q]
  exact (Pixel.mk.injEq ..).mpr ⟨hr, hg, hb⟩

end Sys2Proof.Proofs
end

section
/-! SUPPORT. The step as the performance of the next operation (R80, R81, R89): an offered line, a placed table word, a
pseudo-operation in progress, a refused request. -/

namespace Sys2Proof.Machine

/-- A line that is no operation is refused (R78). -/
theorem proceed_refused {s : State} {line : HostLine} {rest : List HostLine} {e : DecodeError} (hi : s.fsm = .idle)
    (hh : s.helper = none) (hq : s.hostReq = line :: rest) (hd : decodeLine line = .error e) :
    proceed s = .refused (refusalOf e) := by
  simp [proceed, hi, hostTurn, hh, offerNext, hq, hd]

/-- The signal at the boundary is read off the tape of signals only. -/
theorem signal_congr {s t : State} (h : t.signals = s.signals) : t.signal = s.signal := by
  unfold State.signal
  rw [h]

/-- While READY the step is what happens between its boundaries, and then the boundary, with a pulse or without (R93). -/
theorem step_ready {s : State} {a : Answer} (hready : s.ready = true) (ha : proceed s = a) :
    (s.signal = .quiet → step s = passed a) ∧ (s.signal = .teardownInStep → step s = tearAfter a) := by
  have hfault := ((ready_iff s).mp hready).2
  exact ⟨fun hq => by rw [step_quiet hfault hq, ha], fun ht => by rw [step_torn hfault ht, ha]⟩

@[simp] theorem placeLine_ready (line : HostLine) (s : State) : (placeLine line s).ready = true := rfl

@[simp] theorem placeLine_signal (line : HostLine) (s : State) : (placeLine line s).signal = .quiet := by
  have htape : (placeLine line s).signals = if s.signal = .quiet then s.signals else .quiet :: s.signals := rfl
  by_cases h : s.signal = .quiet
  · rw [if_pos h] at htape
    exact (signal_congr htape).trans h
  · rw [if_neg h] at htape
    simp [State.signal, htape]

/-- A placed line is what the next step performs, the lines that were there left (log 5). -/
theorem step_placeLine {line : HostLine} {i : Instr} (s : State) (hd : decodeLine line = .ok i) :
    step (placeLine line s) = passed (exec i (leaveLines s.hostReq (placeLine line s))) :=
  (step_ready (placeLine_ready line s) (proceed_offer rfl rfl rfl hd)).1 (placeLine_signal line s)

end Sys2Proof.Machine

namespace Sys2Proof.Proofs

open Sys2Proof.Machine

/-- Settles O7: the record decodes to no operation, and a line that is none is refused. -/
theorem reservedRequestIsRefused : Obligations.ReservedRequestIsRefused := by
  intro s r rest hready hsig hhelper hreq hop
  have hidle := ((ready_iff s).mp hready).1
  have hrefused := proceed_refused hidle hhelper hreq (decodeRequest_reserved hop)
  rw [(step_ready hready hrefused).1 hsig]
  rfl

/-- Settles O8: between the boundaries the host's next line is performed. -/
theorem stepRunsTheOfferedOperation : Obligations.StepRunsTheOfferedOperation := by
  intro s line rest i hready hhelper hreq hdecode
  have hidle := ((ready_iff s).mp hready).1
  exact step_ready hready (proceed_offer hidle hhelper hreq hdecode)

/-- Settles O10: between the boundaries the host goes on with its pseudo-operation. -/
theorem stepContinuesThePseudoOperation : Obligations.StepContinuesThePseudoOperation := by
  intro s h hready hhelper
  have hidle := ((ready_iff s).mp hready).1
  exact step_ready hready (proceed_helper hidle hhelper)

/-- Settles O11: placing the word's line makes the machine READY at a quiet boundary with that line offered next. -/
theorem placedTableWordIsTheNextOperation : Obligations.PlacedTableWordIsTheNextOperation :=
  fun s _ _ _ hword => step_placeLine s (decodeTableWord_some_iff.mp hword)

end Sys2Proof.Proofs
end

section
/-! SUPPORT. The link history of a command (R77, R97, R98): when an event may be added to a framed history, what every
operation adds to one, and the step lemma. -/

namespace Sys2Proof.Safety

open Sys2Proof.Machine

/-! ## Adding an event to a framed history -/

/-- The bytes are exactly one command frame (R77). -/
def IsFrame (f : List Byte) : Prop := ∃ i, decodeFrame f = .ok (i, [])

/-- An event that a framed history may go on with: any but a Write, and a Write of one command frame if `armed`. -/
def Admitted (armed : Bool) : LinkEvent → Prop
  | .write f _ => armed = true ∧ IsFrame f
  | _ => True

theorem framed_cons_iff (armed : Bool) (e : LinkEvent) (es : List LinkEvent) :
    framed armed (e :: es) = true ↔ Admitted armed e ∧ framed (decide (e = .flush .ok)) es = true := by
  cases e with
  | write f a =>
    rcases hd : decodeFrame f with err | ⟨i, rest⟩
    · simp [framed, Admitted, IsFrame, hd]
    · cases rest <;> simp [framed, Admitted, IsFrame, hd]
  | flush a => cases a <;> simp [framed, Admitted]
  | _ => simp [framed, Admitted]

/-- Whether a Write may come after the events: the last of them is a Flush answered Ok (R97, R98). -/
def armedAfter (armed : Bool) (es : List LinkEvent) : Bool :=
  match es.getLast? with
  | some e => decide (e = .flush .ok)
  | none => armed

theorem armedAfter_cons (armed : Bool) (e : LinkEvent) (es : List LinkEvent) :
    armedAfter armed (e :: es) = armedAfter (decide (e = .flush .ok)) es := by
  unfold armedAfter
  rw [List.getLast?_cons]
  cases es.getLast? <;> rfl

theorem armedAfter_of_flush {es : List LinkEvent} (h : es.getLast? = some (.flush .ok)) (armed : Bool) :
    armedAfter armed es = true := by
  simp [armedAfter, h]

/-- Only the last event before it decides whether an event may be added. -/
theorem framed_concat_iff (armed : Bool) (es : List LinkEvent) (e : LinkEvent) :
    framed armed (es ++ [e]) = true ↔ framed armed es = true ∧ Admitted (armedAfter armed es) e := by
  induction es generalizing armed with
  | nil => simp [framed_cons_iff, framed, armedAfter]
  | cons x es ih => rw [List.cons_append, framed_cons_iff, framed_cons_iff, ih, armedAfter_cons, and_assoc]

/-! ## What the primitives and the ends of an operation add -/

/-- Every Write of the history is framed (R77, R98). -/
def Framed (s : State) : Prop := framed false s.hist = true

section

variable {s t : State}

theorem HistoryFramed.congr (h : HistoryFramed s) (hhist : t.hist = s.hist) (hfsm : t.fsm = s.fsm) :
    HistoryFramed t := by
  unfold HistoryFramed
  rw [hhist, hfsm]
  exact h

theorem HistoryFramed.framed (h : HistoryFramed s) : Framed s := h.1

theorem Framed.congr (h : Framed s) (hhist : t.hist = s.hist) : Framed t := by
  unfold Framed
  rw [hhist]
  exact h

theorem Framed.historyFramed (h : Framed s) (hfsm : s.fsm ≠ .tx) : HistoryFramed s := ⟨h, fun htx => absurd htx hfsm⟩

theorem Framed.concat {e : LinkEvent} (h : Framed s) (ht : t.hist = s.hist ++ [e])
    (he : Admitted (armedAfter false s.hist) e) : Framed t := by
  unfold Framed
  rw [ht, framed_concat_iff]
  exact ⟨h, he⟩

theorem Framed.linkOpen (h : Framed s) (b ms : Word) : Framed (linkOpen b ms s) := h.concat (linkOpen_hist s b ms) trivial

theorem Framed.linkFlush (h : Framed s) : Framed (linkFlush s) := h.concat (linkFlush_hist s) trivial

theorem Framed.linkRead (h : Framed s) (n : Nat) : Framed (linkRead n s) := h.concat (linkRead_hist s n) trivial

/-- A Write of one command frame after a Flush answered Ok (R77, R98). -/
theorem Framed.linkWrite {f : List Byte} (h : Framed s) (hlast : s.hist.getLast? = some (.flush .ok)) (hf : IsFrame f) :
    Framed (linkWrite f s) :=
  h.concat (linkWrite_hist s f) ⟨armedAfter_of_flush hlast false, hf⟩

theorem Framed.closeLink (h : Framed s) : Framed (closeLink s) := by
  cases hs : s.sess with
  | true => exact h.concat (by simp [hs]) (e := .closing) trivial
  | false => simpa [Framed, hs] using h

/-- The end of an operation leaves IDLE, where no Write is to come (R138). -/
theorem Framed.respond (h : Framed s) (r : Response) : HistoryFramed (respond r s) :=
  Framed.historyFramed (h.congr rfl) (by simp)

theorem Framed.clearWork (h : Framed s) : Framed (clearWork s) := h.congr rfl

theorem Framed.ioError (h : Framed s) : HistoryFramed (ioError s) :=
  h.clearWork.closeLink.respond _

theorem Framed.teardown (h : Framed s) : HistoryFramed (teardown s) :=
  Framed.historyFramed (Framed.closeLink (h.congr rfl)) (by simp)

theorem HistoryFramed.raiseFault (h : HistoryFramed s) (f : Fault) : HistoryFramed (raiseFault f s) := h.congr rfl rfl

theorem HistoryFramed.unreachable (h : HistoryFramed s) (hstep : unreachable s = .next t) : HistoryFramed t := by
  cases hstep
  exact h.raiseFault _

/-! ## The phases of a command that write nothing -/

/-- The flush of a command: TX is entered with a Flush answered Ok as the last event (R97). -/
theorem flushPhase_framed (h : Framed s) (hfsm : s.fsm ≠ .tx) (hstep : flushPhase s = .next t) : HistoryFramed t := by
  have hflush := h.linkFlush
  rcases flushPhase_cases hstep with ⟨-, rfl⟩ | ⟨-, hok, rfl⟩ | ⟨-, -, rfl⟩
  · exact hflush.historyFramed (by simpa using hfsm)
  · exact ⟨hflush, fun _ => by simp [hok]⟩
  · exact hflush.ioError

theorem Framed.loadFrame (h : Framed s) (f : List Byte) : Framed (loadFrame f s) := h.congr rfl

theorem acceptCommand_framed {argsOk : Bool} {f : List Byte} (h : Framed s)
    (hstep : acceptCommand argsOk f s = .next t) : HistoryFramed t := by
  rcases acceptCommand_cases hstep with ⟨-, rfl⟩ | ⟨-, -, rfl⟩ | ⟨-, -, hflush⟩
  · exact h.respond _
  · exact h.respond _
  · exact flushPhase_framed (h.loadFrame f) (by simp) hflush

theorem readPhase_framed {n : Nat} {got : List Byte → Answer} (h : Framed s) (hfsm : s.fsm ≠ .tx)
    (hgot : ∀ c, got c = .next t → HistoryFramed t) (hstep : readPhase n got s = .next t) : HistoryFramed t := by
  have hread := h.linkRead n
  have hkept : HistoryFramed (linkRead n s) := hread.historyFramed (by simpa using hfsm)
  rcases readPhase_cases hstep with ⟨-, -, rfl⟩ | ⟨-, rfl⟩ | ⟨c, -, -, rfl⟩ | ⟨c, -, -, hc⟩
  · exact hkept
  · exact hread.ioError
  · exact hkept.raiseFault _
  · exact hgot c hc

theorem readResponse_framed (h : Framed s) (hfsm : s.fsm ≠ .tx) (hstep : readResponse s = .next t) :
    HistoryFramed t := by
  refine readPhase_framed h hfsm (fun c hc => ?_) hstep
  cases c <;> cases hc <;> exact (h.linkRead 1).respond _

theorem completeFrame_framed (h : HistoryFramed s) (hstep : completeFrame s = .next t) : HistoryFramed t := by
  rcases completeFrame_cases hstep with ⟨w, hh, img, -, -, -, -, rfl⟩ | rfl
  · exact h.framed.clearWork.respond _
  · exact h.raiseFault _

theorem accumulate_framed {size : Nat} (h : Framed s) (hfsm : s.fsm ≠ .tx) (hstep : accumulate size s = .next t) :
    HistoryFramed t := by
  have hread := h.linkRead (size - s.len.toNat)
  refine readPhase_framed h hfsm (fun c hc => ?_) hstep
  split at hc
  · cases hc
    exact hread.clearWork.respond _
  · have happended : HistoryFramed (appendChunk c (linkRead (size - s.len.toNat) s)) :=
      Framed.historyFramed (hread.congr rfl) (by simpa using hfsm)
    rw [afterAppend_eq] at hc
    split at hc
    · cases hc; exact happended
    · exact completeFrame_framed happended hc

theorem accumPhase_framed (h : HistoryFramed s) (hfsm : s.fsm ≠ .tx) (hstep : accumPhase s = .next t) :
    HistoryFramed t := by
  unfold accumPhase at hstep
  split at hstep
  · exact h.unreachable hstep
  · split at hstep
    · exact accumulate_framed h.framed hfsm hstep
    · exact completeFrame_framed h hstep

/-! ## The operations outside TX -/

theorem operate_framed {i : Instr} {accept resume : State → Answer} (h : HistoryFramed s)
    (haccept : ∀ u, Framed u → accept u = .next t → HistoryFramed t) (hresume : resume s = .next t → HistoryFramed t)
    (hstep : operate i accept resume s = .next t) : HistoryFramed t := by
  obtain ⟨-, ⟨-, hacc⟩ | ⟨-, -, hres⟩ | ⟨-, -, rfl⟩⟩ := operate_cases hstep
  · have hlatched : Framed (latch i s) := h.framed.congr rfl
    exact haccept _ hlatched hacc
  · exact hresume hres
  · exact h

theorem resumeCommand_framed {sent : State → State} {resp accum : State → Answer} (h : HistoryFramed s)
    (hfsm : s.fsm ≠ .tx) (hresp : resp s = .next t → HistoryFramed t) (haccum : accum s = .next t → HistoryFramed t)
    (hstep : resumeCommand sent resp accum s = .next t) : HistoryFramed t := by
  rcases resumeCommand_cases hstep with rfl | ⟨-, hflush⟩ | ⟨htx, -⟩ | ⟨-, hr⟩ | ⟨-, ha⟩
  · exact h.raiseFault _
  · exact flushPhase_framed h.framed hfsm hflush
  · exact absurd htx hfsm
  · exact hresp hr
  · exact haccum ha

theorem execRegWrite_framed {reg value : Word} (h : HistoryFramed s) (hfsm : s.fsm ≠ .tx)
    (hstep : execRegWrite reg value s = .next t) : HistoryFramed t :=
  operate_framed h (fun _ => acceptCommand_framed) (resumeCommand_framed h hfsm h.unreachable h.unreachable) hstep

theorem execRegRead_framed {reg : Word} (h : HistoryFramed s) (hfsm : s.fsm ≠ .tx)
    (hstep : execRegRead reg s = .next t) : HistoryFramed t :=
  operate_framed h (fun _ => acceptCommand_framed)
    (resumeCommand_framed h hfsm (readResponse_framed h.framed hfsm) h.unreachable) hstep

theorem execCapture_framed (h : HistoryFramed s) (hfsm : s.fsm ≠ .tx) (hstep : execCapture s = .next t) :
    HistoryFramed t :=
  operate_framed h (fun _ => acceptCommand_framed)
    (resumeCommand_framed h hfsm h.unreachable (accumPhase_framed h hfsm)) hstep

theorem acceptOpen_framed {w hh : Word} {baud timeout : Option Word} (h : Framed s)
    (hstep : acceptOpen w hh baud timeout s = .next t) : HistoryFramed t := by
  rcases acceptOpen_cases hstep with ⟨-, rfl⟩ | ⟨-, -, rfl⟩ | ⟨b, ms, -, -, -, -, ⟨-, rfl⟩ | ⟨-, rfl⟩⟩
  · exact h.respond _
  · exact h.respond _
  · exact (h.linkOpen b ms).respond _
  · have hlatched : Framed (latchSession w hh b ms (linkOpen b ms s)) := (h.linkOpen b ms).congr rfl
    exact hlatched.respond _

theorem acceptClose_framed (h : Framed s) (hstep : acceptClose s = .next t) : HistoryFramed t := by
  cases hstep
  exact h.closeLink.respond _

/-- The host's actions in a pseudo-operation issue requests that flush, and no Write (R131). -/
theorem runHelper_framed {op : HelperOp} {reg bit : Word} (h : HistoryFramed s) (hfsm : s.fsm ≠ .tx)
    (hstep : runHelper op reg bit s = .next t) : HistoryFramed t := by
  have hawaiting : ∀ x, HistoryFramed (awaiting x s) := fun _ => h.congr rfl rfl
  have hfinish : ∀ r, HistoryFramed (finishHelper r s) := fun _ => h.congr rfl rfl
  obtain ⟨-, rfl | ⟨-, -, hstart⟩ | ⟨-, x, -, -, -, -, hcont⟩⟩ := runHelper_cases hstep
  · exact h
  · rcases startHelper_cases hstart with ⟨-, -, hissue⟩ | rfl
    · exact execRegRead_framed (hawaiting _) hfsm hissue
    · exact hfinish _
  · rcases continueHelper_cases hcont with ⟨r, -, huse⟩ | ⟨-, rfl⟩
    · rcases useResponse_cases huse with ⟨res, rfl⟩ | ⟨v, -, hissue⟩ | ⟨-, -, -, rfl⟩
      · exact hfinish res
      · exact execRegWrite_framed (hawaiting _) hfsm hissue
      · exact h.raiseFault _
    · exact h.raiseFault _

theorem execPixConv_framed {v : Sample} (h : HistoryFramed s) (hstep : execPixConv v s = .next t) : HistoryFramed t := by
  unfold execPixConv at hstep
  split at hstep <;> cases hstep
  exact h.congr rfl rfl

/-- Outside TX no operation writes, and an operation enters TX only from its flush (R97). -/
theorem exec_framed {i : Instr} (h : HistoryFramed s) (hfsm : s.fsm ≠ .tx) (hstep : exec i s = .next t) :
    HistoryFramed t := by
  cases i with
  | openSession w hh baud timeout => exact operate_framed h (fun _ => acceptOpen_framed) h.unreachable hstep
  | close => exact operate_framed h (fun _ => acceptClose_framed) h.unreachable hstep
  | regWrite reg value => exact execRegWrite_framed h hfsm hstep
  | regRead reg => exact execRegRead_framed h hfsm hstep
  | capture => exact execCapture_framed h hfsm hstep
  | pixConv v => exact execPixConv_framed h hstep
  | setBit reg bit => exact runHelper_framed h hfsm hstep
  | clearBit reg bit => exact runHelper_framed h hfsm hstep
  | getBit reg bit => exact runHelper_framed h hfsm hstep

/-! ## The write -/

/-- What a command does once its frame is sent adds no event and leaves TX (R99, R100, R105). -/
def LeavesTx (sent : State → State) : Prop := ∀ u, (sent u).hist = u.hist ∧ (sent u).fsm ≠ .tx

/-- In state TX a command's step is its write (R97). -/
theorem exec_tx {i : Instr} {f : List Byte} (hf : encodeFrame i = some f) (hfault : s.fault = none) (hfsm : s.fsm = .tx)
    (hcur : s.cur = some i) : ∃ sent, LeavesTx sent ∧ exec i s = writePhase sent s := by
  cases i with
  | regWrite reg value => exact ⟨regWriteSent, fun u => ⟨rfl, by simp [regWriteSent]⟩, operate_tx hfault hfsm hcur⟩
  | regRead reg => exact ⟨regReadSent, fun u => ⟨rfl, by simp⟩, operate_tx hfault hfsm hcur⟩
  | capture => exact ⟨captureSent, fun u => ⟨rfl, by simp⟩, operate_tx hfault hfsm hcur⟩
  | _ => cases hf

/-- What a step of the SCE gives before its boundary: a framed history, or the state after a torn write, whose FSM is
still TX (R93). -/
def Logged (s t : State) : Prop := HistoryFramed t ∨ (s.torn = true ∧ t.fault = s.fault ∧ Framed t)

/-- The latched frame of a command in state TX is one command frame (R35, R77). -/
theorem Coherent.txf_isFrame (h : Coherent s) (hfsm : s.fsm = .tx) {f : List Byte} (hf : s.txf = some f) : IsFrame f := by
  obtain ⟨-, -, -, i, g, -, hwf, hg, htxf⟩ := (workOk_tx hfsm).mp h.work
  obtain rfl : f = g := by simpa [hf] using htxf
  exact ⟨i, by simpa using decodeFrame_encodeFrame hwf hg []⟩

theorem writePhase_logged {sent : State → State} (hc : Coherent s) (h : HistoryFramed s) (hfsm : s.fsm = .tx)
    (hsent : LeavesTx sent) (hstep : writePhase sent s = .next t) : Logged s t := by
  rcases writePhase_cases hstep with ⟨-, rfl⟩ | ⟨f, hf, hcases⟩
  · exact .inl (h.raiseFault _)
  · have hwritten : Framed (linkWrite f s) := h.framed.linkWrite (h.2 hfsm) (hc.txf_isFrame hfsm hf)
    rcases hcases with ⟨htorn, rfl⟩ | ⟨-, -, rfl⟩ | ⟨-, -, rfl⟩
    · exact .inr ⟨htorn, by simp, hwritten⟩
    · obtain ⟨hhist, hleft⟩ := hsent (dropFrame (linkWrite f s))
      exact .inl ((hwritten.congr hhist).historyFramed hleft)
    · exact .inl hwritten.ioError

/-! ## The step -/

theorem exec_flight_logged {i : Instr} (hc : Coherent s) (h : HistoryFramed s) (hfault : s.fault = none)
    (hcur : s.cur = some i) (hstep : exec i s = .next t) : Logged s t := by
  by_cases hfsm : s.fsm = .tx
  · obtain ⟨-, -, -, j, f, hj, -, hf, -⟩ := (workOk_tx hfsm).mp hc.work
    obtain rfl : i = j := by simpa [hcur] using hj
    obtain ⟨sent, hsent, hexec⟩ := exec_tx hf hfault hfsm hcur
    exact writePhase_logged hc h hfsm hsent (hexec ▸ hstep)
  · exact .inl (exec_framed h hfsm hstep)

theorem proceed_logged (hc : Coherent s) (h : HistoryFramed s) (hfault : s.fault = none) (hstep : proceed s = .next t) :
    Logged s t := by
  rcases proceed_cases hstep with ⟨hfsm, x, -, hexec⟩ | ⟨-, -, -, rfl⟩ | ⟨hfsm, -, line, rest, i, -, -, hexec⟩ |
      ⟨-, i, hcur, hexec⟩ | ⟨-, -, rfl⟩
  · exact .inl (exec_framed h (by simp [hfsm]) hexec)
  · exact .inl h
  · have hlines : HistoryFramed (leaveLines rest s) := h.congr rfl rfl
    exact .inl (exec_framed hlines (by simp [hfsm]) hexec)
  · exact exec_flight_logged hc h hfault hcur hexec
  · exact .inl (h.raiseFault _)

theorem Logged.framed (h : Logged s t) : Framed t := h.elim HistoryFramed.framed fun ⟨_, _, ht⟩ => ht

/-- Every step keeps the history framed: what a torn write leaves, the teardown after it moves to IDLE. -/
theorem step_historyFramed (hc : Coherent s) (h : HistoryFramed s) (hstep : step s = .next t) : HistoryFramed t := by
  rcases step_cases hstep with ⟨-, rfl⟩ | ⟨-, -, rfl⟩ | ⟨hfault, hsig, u, hu, rfl⟩ | ⟨hfault, -, u, hu, htear⟩
  · exact ⟨rfl, nofun⟩
  · exact Framed.teardown (h.framed.congr rfl)
  · rcases proceed_logged hc h hfault hu with hkept | ⟨htorn, -⟩
    · exact hkept.congr rfl rfl
    · simp [torn_of_quiet hsig] at htorn
  · have hlogged := proceed_logged hc h hfault hu
    rcases htear with ⟨-, rfl⟩ | ⟨hfaulted, rfl⟩
    · exact Framed.teardown (hlogged.framed.congr rfl)
    · rcases hlogged with hkept | ⟨-, hsame, -⟩
      · exact hkept.congr rfl rfl
      · exact absurd (hsame.trans hfault) hfaulted

end

end Sys2Proof.Safety

namespace Sys2Proof.Proofs

open Sys2Proof.Safety

/-- Settles O52: only a command in TX writes, its latched frame decodes, and TX is entered from a Flush answered Ok alone. -/
theorem stepKeepsEveryWriteFramed : Obligations.StepKeepsEveryWriteFramed := fun _ _ => step_historyFramed

end Sys2Proof.Proofs
end

section
/-! SUPPORT. The updates that a step of an operation is made of, said once for every operation, and what they do to the host's
lines and to the balance of sessions (R88, R89, R92, R156). -/

namespace Sys2Proof.Safety

open Sys2Proof.Machine

/-! ## What a step is made of -/

/-- One update of the state by an operation or by the host's pseudo-operation. A LinkOpen is performed while SESS = 0 only,
and one answered Ok is followed by the session's registers at once (R90). -/
inductive Update : State → State → Prop
  | latch (i : Instr) (s : State) : Update s (latch i s)
  | loadFrame (f : List Byte) (s : State) : Update s (loadFrame f s)
  | toTx (s : State) : Update s (toTx s)
  | dropFrame (s : State) : Update s (dropFrame s)
  | regReadSent (s : State) : Update s (regReadSent s)
  | captureSent (s : State) : Update s (captureSent s)
  | appendChunk (c : List Byte) (s : State) : Update s (appendChunk c s)
  | clearWork (s : State) : Update s (clearWork s)
  | respond (r : Response) (s : State) : Update s (respond r s)
  | raiseFault (f : Fault) (s : State) : Update s (raiseFault f s)
  | awaiting (x : Helper) (s : State) : Update s (awaiting x s)
  | finishHelper (r : HelperResult) (s : State) : Update s (finishHelper r s)
  | emitPixel (p : Pixel) (s : State) : Update s (emitPixel p s)
  | linkFlush (s : State) : Update s (linkFlush s)
  | linkWrite (f : List Byte) (s : State) : Update s (linkWrite f s)
  | linkRead (n : Nat) (s : State) : Update s (linkRead n s)
  | openUnavailable (b ms : Word) (s : State) (hsess : s.sess = false) (ha : s.openAnswer = .unavailable) :
      Update s (linkOpen b ms s)
  | openOk (w h b ms : Word) (s : State) (hsess : s.sess = false) (ha : s.openAnswer = .ok) :
      Update s (latchSession w h b ms (linkOpen b ms s))
  | closeLink (s : State) : Update s (closeLink s)

/-- `t` comes from `s` by updates of operations. -/
abbrev Updates : State → State → Prop := Relation.ReflTransGen Update

section

variable {s t : State}

theorem ioError_updates (s : State) : Updates s (ioError s) :=
  .tail (.tail (.single (.clearWork s)) (.closeLink _)) (.respond _ _)

theorem unreachable_updates (h : unreachable s = .next t) : Updates s t := by
  cases h
  exact .single (.raiseFault _ s)

/-! ## The phases of a command -/

theorem flushPhase_updates (h : flushPhase s = .next t) : Updates s t := by
  have hflush : Updates s (linkFlush s) := .single (.linkFlush s)
  rcases flushPhase_cases h with ⟨-, rfl⟩ | ⟨-, -, rfl⟩ | ⟨-, -, rfl⟩
  · exact hflush
  · exact hflush.tail (.toTx _)
  · exact hflush.trans (ioError_updates _)

theorem writePhase_updates {sent : State → State} (hsent : ∀ u, Update u (sent u)) (h : writePhase sent s = .next t) :
    Updates s t := by
  rcases writePhase_cases h with ⟨-, rfl⟩ | ⟨f, -, hcases⟩
  · exact .single (.raiseFault _ s)
  · have hwrite : Updates s (linkWrite f s) := .single (.linkWrite f s)
    rcases hcases with ⟨-, rfl⟩ | ⟨-, -, rfl⟩ | ⟨-, -, rfl⟩
    · exact hwrite
    · exact (hwrite.tail (.dropFrame _)).tail (hsent _)
    · exact hwrite.trans (ioError_updates _)

theorem readPhase_updates {n : Nat} {got : List Byte → Answer} (hgot : ∀ c, got c = .next t → Updates (linkRead n s) t)
    (h : readPhase n got s = .next t) : Updates s t := by
  have hread : Updates s (linkRead n s) := .single (.linkRead n s)
  rcases readPhase_cases h with ⟨-, -, rfl⟩ | ⟨-, rfl⟩ | ⟨c, -, -, rfl⟩ | ⟨c, -, -, hc⟩
  · exact hread
  · exact hread.trans (ioError_updates _)
  · exact hread.tail (.raiseFault _ _)
  · exact hread.trans (hgot c hc)

theorem readResponse_updates (h : readResponse s = .next t) : Updates s t := by
  refine readPhase_updates (fun c hc => ?_) h
  cases c <;> cases hc <;> exact .single (.respond _ _)

theorem completeFrame_updates (h : completeFrame s = .next t) : Updates s t := by
  rcases completeFrame_cases h with ⟨w, hh, img, -, -, -, -, rfl⟩ | rfl
  · exact .tail (.single (.clearWork s)) (.respond _ _)
  · exact .single (.raiseFault _ s)

theorem accumulate_updates {size : Nat} (h : accumulate size s = .next t) : Updates s t := by
  refine readPhase_updates (fun c hc => ?_) h
  split at hc
  · cases hc
    exact .tail (.single (.clearWork _)) (.respond _ _)
  · rw [afterAppend_eq] at hc
    split at hc
    · cases hc
      exact .single (.appendChunk c _)
    · exact (completeFrame_updates hc).head (.appendChunk c _)

theorem accumPhase_updates (h : accumPhase s = .next t) : Updates s t := by
  unfold accumPhase at h
  split at h
  · exact unreachable_updates h
  · split at h
    · exact accumulate_updates h
    · exact completeFrame_updates h

/-! ## The operations -/

theorem operate_updates {i : Instr} {accept resume : State → Answer} (haccept : ∀ u, accept u = .next t → Updates u t)
    (hresume : resume s = .next t → Updates s t) (h : operate i accept resume s = .next t) : Updates s t := by
  obtain ⟨-, ⟨-, h⟩ | ⟨-, -, h⟩ | ⟨-, -, rfl⟩⟩ := operate_cases h
  · exact (haccept _ h).head (.latch i s)
  · exact hresume h
  · exact .refl

theorem acceptCommand_updates {argsOk : Bool} {f : List Byte} (h : acceptCommand argsOk f s = .next t) :
    Updates s t := by
  rcases acceptCommand_cases h with ⟨-, rfl⟩ | ⟨-, -, rfl⟩ | ⟨-, -, h⟩
  · exact .single (.respond _ s)
  · exact .single (.respond _ s)
  · exact (flushPhase_updates h).head (.loadFrame f s)

theorem resumeCommand_updates {sent : State → State} {resp accum : State → Answer} (hsent : ∀ u, Update u (sent u))
    (hresp : resp s = .next t → Updates s t) (haccum : accum s = .next t → Updates s t)
    (h : resumeCommand sent resp accum s = .next t) : Updates s t := by
  rcases resumeCommand_cases h with rfl | ⟨-, h⟩ | ⟨-, h⟩ | ⟨-, h⟩ | ⟨-, h⟩
  · exact .single (.raiseFault _ s)
  · exact flushPhase_updates h
  · exact writePhase_updates hsent h
  · exact hresp h
  · exact haccum h

theorem execRegWrite_updates {reg value : Word} (h : execRegWrite reg value s = .next t) : Updates s t :=
  operate_updates (fun _ => acceptCommand_updates)
    (resumeCommand_updates (.respond _) unreachable_updates unreachable_updates) h

theorem execRegRead_updates {reg : Word} (h : execRegRead reg s = .next t) : Updates s t :=
  operate_updates (fun _ => acceptCommand_updates)
    (resumeCommand_updates .regReadSent readResponse_updates unreachable_updates) h

theorem execCapture_updates (h : execCapture s = .next t) : Updates s t :=
  operate_updates (fun _ => acceptCommand_updates)
    (resumeCommand_updates .captureSent unreachable_updates accumPhase_updates) h

theorem acceptOpen_updates {w hh : Word} {baud timeout : Option Word} (h : acceptOpen w hh baud timeout s = .next t) :
    Updates s t := by
  rcases acceptOpen_cases h with ⟨-, rfl⟩ | ⟨-, -, rfl⟩ | ⟨b, ms, -, -, -, hsess, ⟨ha, rfl⟩ | ⟨ha, rfl⟩⟩
  · exact .single (.respond _ s)
  · exact .single (.respond _ s)
  · exact .tail (.single (.openUnavailable b ms s hsess ha)) (.respond _ _)
  · exact .tail (.single (.openOk w hh b ms s hsess ha)) (.respond _ _)

theorem acceptClose_updates (h : acceptClose s = .next t) : Updates s t := by
  cases h
  exact .tail (.single (.closeLink s)) (.respond _ _)

theorem runHelper_updates {op : HelperOp} {reg bit : Word} (h : runHelper op reg bit s = .next t) : Updates s t := by
  obtain ⟨-, rfl | ⟨-, -, hstart⟩ | ⟨-, x, -, -, -, -, hcont⟩⟩ := runHelper_cases h
  · exact .refl
  · rcases startHelper_cases hstart with ⟨-, -, hissue⟩ | rfl
    · exact (execRegRead_updates hissue).head (.awaiting _ s)
    · exact .single (.finishHelper _ s)
  · rcases continueHelper_cases hcont with ⟨r, -, huse⟩ | ⟨-, rfl⟩
    · rcases useResponse_cases huse with ⟨res, rfl⟩ | ⟨v, -, hissue⟩ | ⟨-, -, -, rfl⟩
      · exact .single (.finishHelper res s)
      · exact (execRegWrite_updates hissue).head (.awaiting _ s)
      · exact .single (.raiseFault _ s)
    · exact .single (.raiseFault _ s)

theorem execPixConv_updates {v : Sample} (h : execPixConv v s = .next t) : Updates s t := by
  unfold execPixConv at h
  split at h <;> cases h
  exact .single (.emitPixel _ s)

/-- Every operation, from every state, is a sequence of updates. -/
theorem exec_updates {i : Instr} (h : exec i s = .next t) : Updates s t := by
  cases i with
  | openSession w hh baud timeout => exact operate_updates (fun _ => acceptOpen_updates) unreachable_updates h
  | close => exact operate_updates (fun _ => acceptClose_updates) unreachable_updates h
  | regWrite reg value => exact execRegWrite_updates h
  | regRead reg => exact execRegRead_updates h
  | capture => exact execCapture_updates h
  | pixConv v => exact execPixConv_updates h
  | setBit reg bit => exact runHelper_updates h
  | clearBit reg bit => exact runHelper_updates h
  | getBit reg bit => exact runHelper_updates h

/-- Between its boundaries a step is a sequence of updates, after a line taken from `host_req` where the SCE is READY. -/
theorem proceed_updates (h : proceed s = .next t) :
    Updates s t ∨ (s.fsm = .idle ∧ ∃ rest, Updates (leaveLines rest s) t) := by
  rcases proceed_cases h with ⟨-, x, -, hexec⟩ | ⟨-, -, -, rfl⟩ | ⟨hfsm, -, line, rest, i, -, -, hexec⟩ |
      ⟨-, i, -, hexec⟩ | ⟨-, -, rfl⟩
  · exact .inl (exec_updates hexec)
  · exact .inl .refl
  · exact .inr ⟨hfsm, rest, exec_updates hexec⟩
  · exact .inl (exec_updates hexec)
  · exact .inl (.single (.raiseFault _ s))

/-! ## The host's lines -/

/-- No update takes a line from `host_req`. -/
theorem Update.hostReq_eq (h : Update s t) : t.hostReq = s.hostReq := by
  cases h <;> simp

theorem Updates.hostReq_eq (h : Updates s t) : t.hostReq = s.hostReq := by
  induction h with
  | refl => rfl
  | tail _ hlast ih => exact hlast.hostReq_eq.trans ih

/-- While an operation is in flight the step leaves the host's lines (R89). -/
theorem proceed_hostReq (hfsm : s.fsm ≠ .idle) (h : proceed s = .next t) : t.hostReq = s.hostReq := by
  rcases proceed_updates h with hupd | ⟨hidle, -⟩
  · exact hupd.hostReq_eq
  · exact absurd hidle hfsm

/-! ## The balance of sessions -/

/-- The balance speaks of HIST and SESS only. -/
theorem SessionsBalanced.congr (h : SessionsBalanced s) (hhist : t.hist = s.hist) (hsess : t.sess = s.sess) :
    SessionsBalanced t := by
  unfold SessionsBalanced
  rw [hhist, hsess]
  exact h

theorem opened_append (es fs : List LinkEvent) : opened (es ++ fs) = opened es + opened fs := List.countP_append

theorem closed_append (es fs : List LinkEvent) : closed (es ++ fs) = closed es + closed fs := List.countP_append

/-- Events that account for the change of SESS keep the balance. -/
theorem SessionsBalanced.append (h : SessionsBalanced s) {es : List LinkEvent} (hhist : t.hist = s.hist ++ es)
    (hes : opened es + (if s.sess then 1 else 0) = closed es + (if t.sess then 1 else 0)) : SessionsBalanced t := by
  unfold SessionsBalanced at h ⊢
  rw [hhist, opened_append, closed_append]
  omega

theorem SessionsBalanced.closeLink (h : SessionsBalanced s) : SessionsBalanced (closeLink s) := by
  refine h.append (closeLink_hist s) ?_
  cases s.sess <;> rfl

theorem SessionsBalanced.teardown (h : SessionsBalanced s) : SessionsBalanced (teardown s) :=
  SessionsBalanced.congr (s := Machine.closeLink s) h.closeLink rfl rfl

/-- An Open answered Ok comes with SESS = 1, a Close with SESS = 0; no other update touches SESS or either count. -/
theorem Update.sessionsBalanced (h : Update s t) (hs : SessionsBalanced s) : SessionsBalanced t := by
  cases h with
  | closeLink => exact hs.closeLink
  | linkFlush => exact hs.append (linkFlush_hist s) (by simp [opened, closed])
  | linkWrite f => exact hs.append (linkWrite_hist s f) (by simp [opened, closed])
  | linkRead n => exact hs.append (linkRead_hist s n) (by simp [opened, closed])
  | openUnavailable b ms _ _ ha => exact hs.append (linkOpen_hist s b ms) (by simp [opened, closed, ha])
  | openOk w h b ms _ hsess ha => exact hs.append (linkOpen_hist s b ms) (by simp [opened, closed, ha, hsess])
  | _ => exact hs.congr rfl rfl

theorem Updates.sessionsBalanced (h : Updates s t) (hs : SessionsBalanced s) : SessionsBalanced t := by
  induction h with
  | refl => exact hs
  | tail _ hlast ih => exact hlast.sessionsBalanced ih

theorem proceed_sessionsBalanced (h : proceed s = .next t) (hs : SessionsBalanced s) : SessionsBalanced t := by
  rcases proceed_updates h with hupd | ⟨-, rest, hupd⟩
  · exact hupd.sessionsBalanced hs
  · exact hupd.sessionsBalanced (hs.congr rfl rfl)

end

end Sys2Proof.Safety

namespace Sys2Proof.Proofs

open Sys2Proof.Machine Sys2Proof.Safety

/-- Settles O12: a reset and a teardown leave the host's lines, and so does every update of an operation in flight. -/
theorem hostHoldsWhileAnOperationIsInFlight : Obligations.HostHoldsWhileAnOperationIsInFlight := by
  intro s t hfsm hstep
  rcases step_cases hstep with ⟨-, rfl⟩ | ⟨-, -, rfl⟩ | ⟨-, -, u, hu, rfl⟩ | ⟨-, -, u, hu, ⟨-, rfl⟩ | ⟨-, rfl⟩⟩
  · rfl
  · rfl
  all_goals simpa using proceed_hostReq hfsm hu

/-- Settles O53: the balance holds through every update, a teardown closes what is open, and a reset empties HIST. -/
theorem stepKeepsSessionsBalanced : Obligations.StepKeepsSessionsBalanced := by
  intro s t hs hstep
  rcases step_cases hstep with ⟨-, rfl⟩ | ⟨-, -, rfl⟩ | ⟨-, -, u, hu, rfl⟩ | ⟨-, -, u, hu, ⟨-, rfl⟩ | ⟨-, rfl⟩⟩
  · rfl
  · exact (hs.congr rfl rfl : SessionsBalanced s.passSignal).teardown
  · exact (proceed_sessionsBalanced hu hs).congr rfl rfl
  · exact ((proceed_sessionsBalanced hu hs).congr rfl rfl : SessionsBalanced u.passSignal).teardown
  · exact (proceed_sessionsBalanced hu hs).congr rfl rfl

end Sys2Proof.Proofs
end

section
/-! SUPPORT. The acceptance steps of OPEN, CLOSE and the commands, and each link primitive as one record update: the exact next
state, from which the whole frame is read off (R89 to R91, R97). -/

namespace Sys2Proof.Machine

/-! ## The link primitives as record updates -/

theorem linkOpen_eq (b ms : Word) (s : State) :
    linkOpen b ms s = { s.takeAnswer with hist := s.hist ++ [.opening b ms s.openAnswer] } := by
  simp [linkOpen, State.record]

theorem linkFlush_eq (s : State) : linkFlush s = { s.takeAnswer with hist := s.hist ++ [.flush s.lineAnswer] } := by
  simp [linkFlush, State.record]

theorem linkRead_eq (n : Nat) (s : State) :
    linkRead n s = { s.takeAnswer with hist := s.hist ++ [.read n (s.readAnswer n)] } := by
  simp [linkRead, State.record]

theorem leaveLines_takeAnswer (rest : List HostLine) (s : State) :
    (leaveLines rest s).takeAnswer = leaveLines rest s.takeAnswer := by
  unfold State.takeAnswer leaveLines; dsimp only; split <;> rfl

/-- The flush of a command that is accepted in the same step (R89, R97). -/
theorem linkFlush_accepted (f : List Byte) (i : Instr) (s : State) :
    linkFlush (loadFrame f (latch i s)) =
      { s.takeAnswer with cur := some i, txf := some f, fsm := .flush, hist := s.hist ++ [.flush s.lineAnswer] } := by
  rw [linkFlush_eq, loadFrame_takeAnswer, latch_takeAnswer]
  rfl

/-- A response that ends an operation in its acceptance step (R138). -/
theorem respond_latch {s : State} (hidle : s.fsm = .idle) (i : Instr) (r : Response) :
    respond r (latch i s) = { s with rsp := s.rsp ++ [r], cur := none, txf := none } := by
  simp [respond, latch, hidle]

/-! ## OPEN -/

section

variable {s : State} {w h : Word} {baud timeout : Option Word}

theorem exec_open_ready (hready : s.ready = true) :
    exec (.openSession w h baud timeout) s =
      acceptOpen w h baud timeout (latch (.openSession w h baud timeout) s) := by
  obtain ⟨hidle, hfault⟩ := (ready_iff s).mp hready
  exact operate_idle hfault hidle

theorem acceptOpen_unsupported (hsup : supported s.params w h = false) :
    acceptOpen w h baud timeout s = .next (respond { status := .invalidArgument } s) := by
  simp [acceptOpen, hsup, finish_eq]

theorem acceptOpen_ok (hsup : supported s.params w h = true) (hsess : s.sess = false) (ha : s.openAnswer = .ok) :
    acceptOpen w h baud timeout s =
      .next (respond { status := .ok }
        (latchSession w h (baud.getD s.params.baudDefault) (timeout.getD s.params.timeoutDefault)
          (linkOpen (baud.getD s.params.baudDefault) (timeout.getD s.params.timeoutDefault) s))) := by
  simp [acceptOpen, hsup, hsess, openLink, ha, finish_eq]

end

/-! ## CLOSE and the commands -/

/-- CLOSE has no check that could end it otherwise (R91, R141). -/
theorem exec_close_ready {s : State} (hready : s.ready = true) :
    exec .close s =
      .next { closeLink s with rsp := s.rsp ++ [{ status := .ok }], cur := none, txf := none } := by
  obtain ⟨hidle, hfault⟩ := (ready_iff s).mp hready
  have hexec : exec .close s = acceptClose (latch .close s) := operate_idle hfault hidle
  rw [hexec]
  exact congrArg _ (respond_latch (s := closeLink s) hidle .close { status := .ok })

/-- Past its checks a command's acceptance step is its flush (R89, R97, R140, R141). -/
theorem exec_command_accepted {i : Instr} {f : List Byte} {s : State} (hf : encodeFrame i = some f)
    (hfault : s.fault = none) (hidle : s.fsm = .idle) (hwf : i.wf = true) (hsess : s.sess = true) :
    exec i s = flushPhase (loadFrame f (latch i s)) := by
  rw [exec_command_idle hf hfault hidle, hwf, acceptCommand_open (by simpa using hsess)]

end Sys2Proof.Machine

namespace Sys2Proof.Proofs

open Sys2Proof.Machine Sys2Proof.Safety

/-- Settles O13: past both checks OPEN is one LinkOpen, and its answer Ok latches the session. -/
theorem openCompletes : Obligations.OpenCompletes := by
  intro s w h baud timeout hready hsup hsess ha
  have hidle := ((ready_iff s).mp hready).1
  rw [exec_open_ready hready, acceptOpen_ok (by simpa using hsup) (by simpa using hsess) (by simpa using ha), linkOpen_eq,
    latch_takeAnswer, latch_openAnswer, ha]
  simp [respond, latchSession, latch, hidle]

/-- Settles O15: each check answers at once, the FrameSpec first. -/
theorem openChecksItsArgumentsFirst : Obligations.OpenChecksItsArgumentsFirst := by
  intro s w h baud timeout hready
  have hidle := ((ready_iff s).mp hready).1
  constructor
  · intro hsup
    rw [exec_open_ready hready, acceptOpen_unsupported (by simpa using hsup), respond_latch hidle]
  · intro hsup hsess
    rw [exec_open_rejected hready hsess, hsup]
    rfl

/-- Settles O16: CLOSE closes what is open and answers OK. -/
theorem closeCompletes : Obligations.CloseCompletes := by
  intro s hready
  rw [exec_close_ready hready]
  constructor
  · intro hsess
    simp [closeLink, hsess]
  · intro hsess
    simp [closeLink, hsess]

/-- Settles O17: the checks hold, and the flush answered Ok leads to TX. -/
theorem commandIsAcceptedWithOneFlush : Obligations.CommandIsAcceptedWithOneFlush := by
  intro s i f hready hsess hwf hf htorn ha
  obtain ⟨hidle, hfault⟩ := (ready_iff s).mp hready
  rw [exec_command_accepted hf hfault hidle hwf hsess, flushPhase_eq (by simpa using htorn), if_pos (by simpa using ha),
    linkFlush_accepted, ha]
  rfl

end Sys2Proof.Proofs
end

section
/-! SUPPORT. A step in which a Read breaks the contract of the link, and a step that is torn down: what the operation gives
before the boundary, and what the boundary makes of it (R38, R87, R93). -/

namespace Sys2Proof.Machine

/-! ## The boundary after a step -/

section

variable {s t : State}

/-- A step that sets FAULT takes no teardown after it: with a pulse or without, only the boundary passes (R38, R93). -/
theorem step_faulted {f : Fault} (hfault : s.fault = none) (hsig : s.signal = .quiet ∨ s.signal = .teardownInStep)
    (hstep : proceed s = .next t) (ht : t.fault = some f) : step s = .next t.passSignal := by
  rcases hsig with hq | htear
  · rw [step_quiet hfault hq, hstep, passed_next]
  · rw [step_torn hfault htear, hstep]
    simp [tearAfter, ht]

theorem torn_of_teardownInStep (hsig : s.signal = .teardownInStep) : s.torn = true := by
  simp [State.torn, hsig]

/-- The events of a close, as the statements write them. -/
theorem closeEvents_eq_ite (b : Bool) : closeEvents b = if b = true then [.closing] else [] := by
  cases b <;> rfl

/-- A pulse during a step that leaves an operation in flight and sets no FAULT: the boundary after it aborts the operation and
closes the session (R93). -/
theorem step_abortsFlight {i : Instr} (hfault : s.fault = none) (hsig : s.signal = .teardownInStep)
    (hstep : proceed s = .next t) (ht : t.fault = none) (hcur : t.cur = some i) :
    step s = .next { t with
      signals := t.signals.tail, rsp := t.rsp ++ [{ status := .aborted }],
      len := 0, buf := [], txf := none, cur := none, fsm := .idle,
      hist := t.hist ++ (if t.sess = true then [.closing] else []), sess := false } := by
  rw [step_torn hfault hsig, hstep, ← closeEvents_eq_ite]
  simp [tearAfter, ht, teardown, closeLink, clearWork, State.passSignal, hcur]

end

/-! ## The Reads of a command -/

section

variable {s : State}

/-- In state RESP the command in flight is REG_READ at its one Read (R100). -/
theorem exec_regRead_resp {reg : Word} (hfault : s.fault = none) (hfsm : s.fsm = .resp)
    (hcur : s.cur = some (.regRead reg)) : exec (.regRead reg) s = readResponse s :=
  operate_resp hfault hfsm hcur

/-- In state ACCUM with bytes missing CAPTURE is at a Read (R105). -/
theorem exec_capture_accum {size : Nat} (hfault : s.fault = none) (hfsm : s.fsm = .accum) (hcur : s.cur = some .capture)
    (hsess : s.sess = true) (hsize : s.byteSize = some size) (hlen : s.len.toNat < size) :
    exec .capture s = accumulate size s := by
  have hexec : exec .capture s = accumPhase s := operate_accum hfault hfsm hcur
  rw [hexec, accumPhase_some hsess hsize, if_pos hlen]

/-- The state in which a chunk longer than asked for leaves the SCE (R38, R87). -/
theorem raiseFault_linkRead {n : Nat} {c : List Byte} (ha : s.readAnswer n = .chunk c) :
    raiseFault .linkContract (linkRead n s) =
      { s.takeAnswer with hist := s.hist ++ [.read n (.chunk c)], fault := some .linkContract } := by
  rw [linkRead_eq, ha]
  rfl

/-- A command in flight that is about to issue a Read of `n` bytes (R100, R105). -/
def AtRead (i : Instr) (n : Nat) (s : State) : Prop :=
  (s.fsm = .resp ∧ (∃ reg, i = .regRead reg) ∧ n = 1) ∨
    ∃ size, s.fsm = .accum ∧ i = .capture ∧ s.sess = true ∧ s.byteSize = some size ∧ s.len.toNat < size ∧
      n = size - s.len.toNat

/-- There the step of the command is that Read. -/
theorem exec_atRead {i : Instr} {n : Nat} (h : AtRead i n s) (hfault : s.fault = none) (hcur : s.cur = some i) :
    ∃ got, exec i s = readPhase n got s := by
  rcases h with ⟨hfsm, ⟨reg, rfl⟩, rfl⟩ | ⟨size, hfsm, rfl, hsess, hsize, hlen, rfl⟩
  · exact ⟨_, exec_regRead_resp hfault hfsm hcur⟩
  · exact ⟨_, exec_capture_accum hfault hfsm hcur hsess hsize hlen⟩

/-- An over-long chunk is LINK_CONTRACT at every Read of a command, whatever the signals are (R38, R87). -/
theorem exec_overlong {i : Instr} {n : Nat} {c : List Byte} (h : AtRead i n s) (hfault : s.fault = none)
    (hcur : s.cur = some i) (ha : s.readAnswer n = .chunk c) (hlong : n < c.length) :
    exec i s = .next { s.takeAnswer with hist := s.hist ++ [.read n (.chunk c)], fault := some .linkContract } := by
  obtain ⟨got, hexec⟩ := exec_atRead h hfault hcur
  rw [hexec, readPhase_overlong ha hlong, raiseFault_linkRead ha]

/-- The step of the whole is then the command's. -/
theorem AtRead.proceed_eq {i : Instr} {n : Nat} (h : AtRead i n s) (hcur : s.cur = some i) : proceed s = exec i s := by
  rcases h with ⟨hfsm, -⟩ | ⟨size, hfsm, -⟩ <;>
    exact proceed_flight (by simp [hfsm]) (by simp [hfsm]) (by simp [hfsm]) hcur

end

/-! ## A pulse during a primitive -/

section

variable {s : State} {i : Instr}

/-- In state FLUSH the command in flight flushes its link (R97). -/
theorem operate_flush {accept : State → Answer} {sent : State → State} {resp accum : State → Answer}
    (hfault : s.fault = none) (hfsm : s.fsm = .flush) (hcur : s.cur = some i) :
    operate i accept (resumeCommand sent resp accum) s = flushPhase s := by
  rw [operate_resume hfault (by simp [hfsm]) hcur, resumeCommand, hfsm]

/-- A command in flight whose next step performs the link primitive of event `e`; a Read keeps its contract (R97, R100,
R105). -/
def AtPrimitive (i : Instr) (e : LinkEvent) (s : State) : Prop :=
  (s.fsm = .flush ∧ e = .flush s.lineAnswer) ∨ (∃ g, s.fsm = .tx ∧ s.txf = some g ∧ e = .write g s.lineAnswer) ∨
    ∃ n, AtRead i n s ∧ (∀ c, s.readAnswer n = .chunk c → c.length ≤ n) ∧ e = .read n (s.readAnswer n)

/-- With a pulse during it the primitive's event stands, and nothing else follows from its answer (R93). -/
theorem exec_torn {f : List Byte} {e : LinkEvent} (h : AtPrimitive i e s) (hfault : s.fault = none)
    (htorn : s.torn = true) (hcur : s.cur = some i) (hf : encodeFrame i = some f) :
    exec i s = .next (s.takeAnswer.record e) := by
  rcases h with ⟨hfsm, rfl⟩ | ⟨g, hfsm, htxf, rfl⟩ | ⟨n, hread, hbound, rfl⟩
  · obtain ⟨sent, resp, accum, hexec⟩ := exec_command hf
    rw [hexec, operate_flush hfault hfsm hcur]
    exact flushPhase_torn htorn
  · obtain ⟨sent, resp, accum, hexec⟩ := exec_command hf
    rw [hexec, operate_tx hfault hfsm hcur]
    exact writePhase_torn htorn htxf
  · obtain ⟨got, hexec⟩ := exec_atRead hread hfault hcur
    rw [hexec]
    exact readPhase_torn htorn hbound

/-- The step of the whole is then the command's. -/
theorem AtPrimitive.proceed_eq {e : LinkEvent} (h : AtPrimitive i e s) (hcur : s.cur = some i) : proceed s = exec i s := by
  rcases h with ⟨hfsm, -⟩ | ⟨g, hfsm, -⟩ | ⟨n, hread, -⟩
  · exact proceed_flight (by simp [hfsm]) (by simp [hfsm]) (by simp [hfsm]) hcur
  · exact proceed_flight (by simp [hfsm]) (by simp [hfsm]) (by simp [hfsm]) hcur
  · exact hread.proceed_eq hcur

/-- A command accepted in the step during which the pulse arrives: its flush has completed, and it is in flight (R93). -/
theorem exec_accepted_torn {f : List Byte} (hf : encodeFrame i = some f) (hfault : s.fault = none)
    (hidle : s.fsm = .idle) (htorn : s.torn = true) (hwf : i.wf = true) (hsess : s.sess = true) :
    exec i s = .next { s.takeAnswer with
      cur := some i, txf := some f, fsm := .flush, hist := s.hist ++ [.flush s.lineAnswer] } := by
  rw [exec_command_accepted hf hfault hidle hwf hsess, flushPhase_torn (by simpa using htorn), linkFlush_accepted]

/-- The whole step of such a command: `u` is the READY state in which the host issues it. -/
theorem step_abortsAccepted {u : State} {f : List Byte} (hfault : s.fault = none) (hsig : s.signal = .teardownInStep)
    (hissue : proceed s = exec i u) (hf : encodeFrame i = some f) (hufault : u.fault = none) (hidle : u.fsm = .idle)
    (htorn : u.torn = true) (hwf : i.wf = true) (hsess : u.sess = true) :
    step s = .next { u.takeAnswer with
      signals := u.signals.tail, rsp := u.rsp ++ [{ status := .aborted }],
      len := 0, buf := [], txf := none, cur := none, fsm := .idle,
      hist := u.hist ++ [.flush u.lineAnswer, .closing], sess := false } := by
  have hproceed := hissue.trans (exec_accepted_torn hf hufault hidle htorn hwf hsess)
  rw [step_abortsFlight hfault hsig hproceed (by simpa using hufault) rfl]
  simp [hsess]

end

/-! ## The requests of a pseudo-operation -/

section

variable {s : State} {op : HelperOp} {reg bit : Word}

/-- A pseudo-operation with operands in range begins with its REG_READ (R130, R131). -/
theorem exec_helper_start (hfault : s.fault = none) (hidle : s.fsm = .idle) (hhelper : s.helper = none)
    (hreg : inRange8 reg = true) (hbit : bitIndexOk bit = true) :
    exec (op.instr reg bit) s =
      exec (.regRead reg) (awaiting { op := op, reg := reg, bit := bit, phase := .awaitRead } s) := by
  have hissue : exec (op.instr reg bit) s = issueRead op reg bit s := by
    rw [exec_helper]
    simp [runHelper, startHelper, hfault, hidle, hhelper, hreg, hbit]
  exact hissue

/-- SET_BIT and CLEAR_BIT go on from a read answered OK with their REG_WRITE (R127, R128). -/
theorem exec_helper_write {v : Byte} (hfault : s.fault = none) (hidle : s.fsm = .idle) (hop : op ≠ .get)
    (hhelper : s.helper = some { op := op, reg := reg, bit := bit, phase := .awaitRead })
    (hrsp : s.rsp.getLast? = some { status := .ok, value := some v }) :
    ∃ b, exec (op.instr reg bit) s =
      exec (.regWrite reg (zextWord b)) (awaiting { op := op, reg := reg, bit := bit, phase := .awaitWrite } s) := by
  have hissue : exec (op.instr reg bit) s = useValue { op := op, reg := reg, bit := bit, phase := .awaitRead } v s := by
    rw [exec_helper]
    simp [runHelper, continueHelper, useResponse, hfault, hidle, hhelper, hrsp]
  rw [hissue]
  cases op with
  | set => exact ⟨_, rfl⟩
  | clear => exact ⟨_, rfl⟩
  | get => exact absurd rfl hop

end

end Sys2Proof.Machine

namespace Sys2Proof.Proofs

open Sys2Proof.Machine

/-- Settles O24: at each Read the contract is looked at before the pulse, and the boundary after a fault only passes. -/
theorem overlongChunkIsALinkContractFault : Obligations.OverlongChunkIsALinkContractFault := by
  refine ⟨fun s reg c hfault hfsm hcur ha hlong => ?_, fun s size c hfault hfsm hcur hsess hsize hlen ha hlong => ?_,
    fun s n c hfault hsig hplace ha hlong => ?_⟩
  · exact exec_overlong (.inl ⟨hfsm, ⟨reg, rfl⟩, rfl⟩) hfault hcur ha hlong
  · exact exec_overlong (.inr ⟨size, hfsm, rfl, hsess, hsize, hlen, rfl⟩) hfault hcur ha hlong
  · obtain ⟨i, hcur, hread⟩ : ∃ i, s.cur = some i ∧ AtRead i n s := by
      rcases hplace with ⟨hfsm, ⟨reg, hcur⟩, hn⟩ | ⟨size, hfsm, hcur, hrest⟩
      · exact ⟨_, hcur, .inl ⟨hfsm, ⟨reg, rfl⟩, hn⟩⟩
      · exact ⟨_, hcur, .inr ⟨size, hfsm, rfl, hrest⟩⟩
    have hproceed := (hread.proceed_eq hcur).trans (exec_overlong hread hfault hcur ha hlong)
    rw [step_faulted hfault hsig hproceed rfl]
    simp [State.passSignal]

/-- Settles O44: a teardown at the boundary by its definition; with a pulse during a primitive the operation is still in flight
at the boundary after the step, which aborts it. -/
theorem teardownAbortsAndCloses : Obligations.TeardownAbortsAndCloses := by
  intro s hfault
  refine ⟨fun hsig => ?_, fun i f e hsig hcur hf hplace => ?_,
    fun line rest i f hsig hidle hhelper hreq hdecode hf hwf hsess => ?_,
    fun line rest op reg bit hsig hidle hhelper hreq hdecode hreg hbit hsess => ?_,
    fun op reg bit v hsig hidle hop hhelper hrsp hreg hsess => ?_⟩
  · rw [step_teardown hfault hsig]
    cases hcur : s.cur <;> cases hsess : s.sess <;>
      simp [teardown, closeLink, clearWork, State.passSignal, hcur, hsess]
  · have hprim : AtPrimitive i e s := by
      rcases hplace with hflush | htx | ⟨hfsm, hi, hbound, he⟩ | ⟨size, hfsm, hi, hsess, hsize, hlen, hbound, he⟩
      · exact .inl hflush
      · exact .inr (.inl htx)
      · exact .inr (.inr ⟨1, .inl ⟨hfsm, hi, rfl⟩, hbound, he⟩)
      · exact .inr (.inr ⟨_, .inr ⟨size, hfsm, hi, hsess, hsize, hlen, rfl⟩, hbound, he⟩)
    have hproceed := (hprim.proceed_eq hcur).trans (exec_torn hprim hfault (torn_of_teardownInStep hsig) hcur hf)
    rw [step_abortsFlight hfault hsig hproceed (by simpa using hfault) (by simpa using hcur)]
    simp [State.record]
  · rw [step_abortsAccepted (u := leaveLines rest s) hfault hsig (proceed_offer hidle hhelper hreq hdecode) hf hfault hidle
      (torn_of_teardownInStep hsig) hwf hsess, leaveLines_takeAnswer]
    rfl
  · have hissue := (proceed_offer hidle hhelper hreq hdecode).trans
      (exec_helper_start hfault hidle hhelper (decide_eq_true hreg) (decide_eq_true hbit))
    rw [step_abortsAccepted hfault hsig hissue rfl hfault hidle (torn_of_teardownInStep hsig)
      (decide_eq_true hreg) hsess, awaiting_takeAnswer, leaveLines_takeAnswer]
    rfl
  · obtain ⟨b, hwrite⟩ := exec_helper_write hfault hidle hop hhelper hrsp
    have hwf : (Instr.regWrite reg (zextWord b)).wf = true :=
      Bool.and_eq_true_iff.mpr ⟨decide_eq_true hreg, inRange8_zext b⟩
    rw [step_abortsAccepted hfault hsig ((proceed_helper hidle hhelper).trans hwrite) rfl hfault hidle
      (torn_of_teardownInStep hsig) hwf hsess, awaiting_takeAnswer]
    rfl

end Sys2Proof.Proofs
end

section
/-! SUPPORT. The register operations of the command codec: their frames tell their operands apart (R73, R96), a bad operand is
answered with no link event (R95), and each later step is one record update (R97, R99 to R101). -/

namespace Sys2Proof

/-- A frame byte is the low bits of its operand (R73, R96). -/
theorem lowByte_eq_extractLsb' (w : Word) : lowByte w = w.extractLsb' 0 8 :=
  BitVec.setWidth_eq_extractLsb' (by decide)

/-- A frame belongs to one well-formed command, the one it decodes to (R76, R96). -/
theorem encodeFrame_injective {i j : Instr} {f : List Byte} (hi : i.wf = true) (hj : j.wf = true)
    (hif : encodeFrame i = some f) (hjf : encodeFrame j = some f) : i = j := by
  have hdecode : Except.ok i = (.ok j : Except DecodeError Instr) :=
    (decodeWholeFrame_encodeFrame hi hif).symm.trans (decodeWholeFrame_encodeFrame hj hjf)
  cases hdecode
  rfl

end Sys2Proof

namespace Sys2Proof.Machine

/-- A command whose operands do not fit its frame ends in its acceptance step, before any link event and whatever SESS is
(R95, R140). -/
theorem exec_command_badArgs {i : Instr} {f : List Byte} {s : State} (hf : encodeFrame i = some f)
    (hready : s.ready = true) (hwf : i.wf = false) :
    exec i s = .next { s with rsp := s.rsp ++ [{ status := .invalidArgument }], cur := none, txf := none } := by
  obtain ⟨hidle, hfault⟩ := (ready_iff s).mp hready
  rw [exec_command_idle hf hfault hidle, hwf, acceptCommand_badArgs, respond_latch hidle]

/-- The state after a write whose frame has been sent (R86, R97). -/
theorem dropFrame_linkWrite (f : List Byte) (s : State) :
    dropFrame (linkWrite f s) =
      { s.takeAnswer with hist := s.hist ++ [.write f s.lineAnswer], txf := none } := by
  simp [dropFrame, linkWrite, State.record]

/-- A write answered Ok with no pulse during it (R97). -/
theorem writePhase_ok {sent : State → State} {s : State} {f : List Byte} (htorn : s.torn = false) (htxf : s.txf = some f)
    (ha : s.lineAnswer = .ok) :
    writePhase sent s = .next (sent { s.takeAnswer with hist := s.hist ++ [.write f .ok], txf := none }) := by
  rw [writePhase_some htorn htxf, if_pos ha, dropFrame_linkWrite, ha]

/-- A response that ends an operation with its Read (R87, R138). -/
theorem respond_linkRead {n : Nat} {a : ReadAnswer} {s : State} (ha : s.readAnswer n = a) (r : Response) :
    respond r (linkRead n s) =
      { s.takeAnswer with
        hist := s.hist ++ [.read n a], rsp := s.rsp ++ [r], cur := none, txf := none, fsm := .idle } := by
  simp [respond, linkRead_eq, ha]

section

variable {s : State} {reg value : Word}

/-- In state TX the command in flight is REG_WRITE at its write (R99). -/
theorem exec_regWrite_tx (hfault : s.fault = none) (hfsm : s.fsm = .tx) (hcur : s.cur = some (.regWrite reg value)) :
    exec (.regWrite reg value) s = writePhase regWriteSent s :=
  operate_tx hfault hfsm hcur

/-- In state TX the command in flight is REG_READ at its write (R100). -/
theorem exec_regRead_tx (hfault : s.fault = none) (hfsm : s.fsm = .tx) (hcur : s.cur = some (.regRead reg)) :
    exec (.regRead reg) s = writePhase regReadSent s :=
  operate_tx hfault hfsm hcur

end

end Sys2Proof.Machine

namespace Sys2Proof.Proofs

open Sys2Proof.Machine

/-- Settles O5: the frame bytes are the operands' low bytes, and a frame decodes to the operands it was made of. -/
theorem frameEncodersAreInjective : Obligations.FrameEncodersAreInjective := by
  refine ⟨fun reg value => ?_, fun reg => ?_, rfl, fun r v r' v' hr hv hr' hv' h => ?_, fun r r' hr hr' h => ?_⟩
  · rw [encWrite, lowByte_eq_extractLsb', lowByte_eq_extractLsb']
  · rw [encRead, lowByte_eq_extractLsb']
  · have hcommand : Instr.regWrite r v = .regWrite r' v' :=
      encodeFrame_injective (Bool.and_eq_true_iff.mpr ⟨hr, hv⟩) (Bool.and_eq_true_iff.mpr ⟨hr', hv'⟩) rfl
        (congrArg some h.symm)
    exact Instr.regWrite.inj hcommand
  · have hcommand : Instr.regRead r = .regRead r' := encodeFrame_injective hr hr' rfl (congrArg some h.symm)
    exact Instr.regRead.inj hcommand

/-- Settles O18: such a command is not well-formed, which its acceptance step checks first. -/
theorem outOfRangeOperandIsInvalidArgument : Obligations.OutOfRangeOperandIsInvalidArgument :=
  fun _ _ _ hready =>
    ⟨fun hargs => exec_command_badArgs rfl hready (Bool.and_eq_false_iff.mpr hargs),
      fun hreg => exec_command_badArgs rfl hready hreg⟩

/-- Settles O20: the write answered Ok, and the response that follows it at once. -/
theorem regWriteCompletes : Obligations.RegWriteCompletes := by
  intro s reg value f hfault hfsm hcur htxf htorn ha
  rw [exec_regWrite_tx hfault hfsm hcur, writePhase_ok htorn htxf ha]
  simp [regWriteSent, respond]

/-- Settles O21: the write answered Ok, after which REG_READ moves to RESP. -/
theorem regReadSendsItsFrame : Obligations.RegReadSendsItsFrame := by
  intro s reg f hfault hfsm hcur htxf htorn ha
  rw [exec_regRead_tx hfault hfsm hcur, writePhase_ok htorn htxf ha]
  rfl

/-- Settles O22: of what REG_READ's Read can bring, the chunk of one byte. -/
theorem regReadReturnsTheByte : Obligations.RegReadReturnsTheByte := by
  intro s reg v hfault hfsm hcur htorn ha
  rw [exec_regRead_resp hfault hfsm hcur, readResponse_use htorn, ha]
  exact congrArg _ (respond_linkRead ha _)

/-- Settles O23: of what REG_READ's Read can bring, the empty chunk. -/
theorem regReadTimesOut : Obligations.RegReadTimesOut := by
  intro s reg hfault hfsm hcur htorn ha
  rw [exec_regRead_resp hfault hfsm hcur, readResponse_use htorn, ha]
  exact congrArg _ (respond_linkRead ha _)

end Sys2Proof.Proofs
end

section
/-! SUPPORT. The frame assembler's later steps: CAPTURE's write and each Read of its loop as one record update (R105 to R111),
the bound on the loop (R113), and what stands behind a CAPTURE that answers OK (R114). -/

namespace Sys2Proof.Machine

/-! ## The completed buffer and its image -/

section

variable {w h : Nat} {m : Memory} {img : Image}

/-- A chunk appended where the written bytes end leaves every byte below its own end written (R108). -/
theorem read_write_isSome {base a : Nat} {c : List Byte} (hm : ∀ b, b < base → (Memory.read m b).isSome = true)
    (ha : a < base + c.length) : (Memory.read (Memory.write m base c) a).isSome = true := by
  rw [read_write]
  by_cases hin : base ≤ a ∧ a < base + c.length
  · rw [if_pos hin, List.getElem?_eq_getElem (by omega)]
    rfl
  · rw [if_neg hin]
    exact hm a (by omega)

/-- FrameDecode gives an image of exactly the size asked for (R123). -/
theorem frameDecode_size (hd : frameDecode w h m = some img) :
    img.width = w ∧ img.height = h ∧ img.pixels.length = w * h := by
  obtain ⟨pixels, hconv, rfl⟩ := frameDecode_some_iff.mp hd
  exact ⟨rfl, rfl, convertFrom_length hconv⟩

/-- The cell at a row and a column is the conversion of the sample at that pixel's offset (R49, R123). -/
theorem imageAt_frameDecode {row col : Nat} (hd : frameDecode w h m = some img) (hrow : row < h) (hcol : col < w) :
    ∃ v, Memory.read16 m (2 * (row * w + col)) = some v ∧ imageAt img row col = some (pixelOf v) := by
  obtain ⟨pixels, hconv, rfl⟩ := frameDecode_some_iff.mp hd
  have hindex : row * w + col < w * h :=
    calc row * w + col < row * w + w := by omega
      _ = (row + 1) * w := (Nat.succ_mul row w).symm
      _ ≤ h * w := Nat.mul_le_mul_right w hrow
      _ = w * h := Nat.mul_comm h w
  obtain ⟨v, hv, hpixel⟩ := convertFrom_getElem hconv hindex
  rw [Nat.zero_add] at hv
  exact ⟨v, hv, by rw [imageAt, if_pos ⟨hrow, hcol⟩, hpixel]⟩

end

/-! ## The steps of CAPTURE as record updates -/

section

variable {s : State} {size : Nat} {c : List Byte}

/-- In state TX the command in flight is CAPTURE at its write (R105). -/
theorem exec_capture_tx (hfault : s.fault = none) (hfsm : s.fsm = .tx) (hcur : s.cur = some .capture) :
    exec .capture s = writePhase captureSent s :=
  operate_tx hfault hfsm hcur

/-- A chunk within the remaining count, on top of what CAPTURE's Read left (R87, R108). -/
theorem appendChunk_linkRead {n : Nat} (ha : s.readAnswer n = .chunk c) :
    appendChunk c (linkRead n s) =
      { s.takeAnswer with
        hist := s.hist ++ [.read n (.chunk c)], buf := Memory.write s.buf s.len.toNat c,
        len := s.len + BitVec.ofNat 32 c.length } := by
  simp [appendChunk, linkRead_eq, ha]

/-- A response that ends CAPTURE discards the buffer (R109, R110, R138). -/
theorem respond_clearWork (r : Response) (s : State) :
    respond r (clearWork s) =
      { s with rsp := s.rsp ++ [r], len := 0, buf := [], txf := none, cur := none, fsm := .idle } := rfl

/-- A non-empty chunk within the remaining count is appended, and LEN then decides (R105, R107, R108). -/
theorem exec_capture_chunk (hfault : s.fault = none) (hfsm : s.fsm = .accum) (hcur : s.cur = some .capture)
    (hsess : s.sess = true) (hsize : s.byteSize = some size) (htorn : s.torn = false)
    (ha : s.readAnswer (size - s.len.toNat) = .chunk c) (hc : c ≠ []) (hfit : s.len.toNat + c.length ≤ size) :
    exec .capture s = afterAppend size (appendChunk c (linkRead (size - s.len.toNat) s)) := by
  have hpos : 0 < c.length := List.length_pos_of_ne_nil hc
  rw [exec_capture_accum hfault hfsm hcur hsess hsize (by omega), accumulate_use htorn, ha]
  simp only [hc, if_false, if_neg (show ¬ size - s.len.toNat < c.length by omega)]

/-- A Read of zero bytes ends CAPTURE at once (R110). -/
theorem exec_capture_empty (hfault : s.fault = none) (hfsm : s.fsm = .accum) (hcur : s.cur = some .capture)
    (hsess : s.sess = true) (hsize : s.byteSize = some size) (hlen : s.len.toNat < size) (htorn : s.torn = false)
    (ha : s.readAnswer (size - s.len.toNat) = .chunk []) :
    exec .capture s = incomplete size (linkRead (size - s.len.toNat) s) := by
  rw [exec_capture_accum hfault hfsm hcur hsess hsize hlen, accumulate_use htorn, ha]
  simp

end

/-! ## The responses before the loop -/

section

variable {s t : State} {r : Response}

/-- The only response a flush can end a command with is IO_ERROR (R97, R143). -/
theorem flushPhase_response (h : flushPhase s = .next t) (hr : t.rsp = s.rsp ++ [r]) : r = { status := .ioError } := by
  rcases flushPhase_cases h with ⟨-, rfl⟩ | ⟨-, -, rfl⟩ | ⟨-, -, rfl⟩
  · simp at hr
  · simp at hr
  · simpa [eq_comm] using hr

/-- So it is with the write, if what follows the sent frame is no response (R97, R143). -/
theorem writePhase_response {sent : State → State} (hsent : ∀ u, (sent u).rsp = u.rsp)
    (h : writePhase sent s = .next t) (hr : t.rsp = s.rsp ++ [r]) : r = { status := .ioError } := by
  rcases writePhase_cases h with ⟨-, rfl⟩ | ⟨f, -, ⟨-, rfl⟩ | ⟨-, -, rfl⟩ | ⟨-, -, rfl⟩⟩
  · simp at hr
  · simp at hr
  · simp [hsent] at hr
  · simpa [eq_comm] using hr

/-- The acceptance step of a command never answers OK (R97, R140, R141). -/
theorem acceptCommand_response {argsOk : Bool} {f : List Byte} (h : acceptCommand argsOk f s = .next t)
    (hr : t.rsp = s.rsp ++ [r]) : r.status ≠ .ok := by
  rcases acceptCommand_cases h with ⟨-, rfl⟩ | ⟨-, -, rfl⟩ | ⟨-, -, hflush⟩
  · obtain rfl : { status := .invalidArgument } = r := by simpa using hr
    decide
  · obtain rfl : { status := .invalidState } = r := by simpa using hr
    decide
  · obtain rfl := flushPhase_response hflush hr
    decide

end

end Sys2Proof.Machine

namespace Sys2Proof.Safety

open Sys2Proof.Machine

section

variable {s t : State} {size : Nat}

/-! ## The bound on the loop -/

/-- A CAPTURE has left its loop: FSM is IDLE, or the link has broken its contract (R38, R113). -/
def Halted (s : State) : Prop := s.fsm = .idle ∨ s.fault = some .linkContract

/-- The loop is under way with BYTE_SIZE `size` and more received than at `s` (R111). -/
def GoesOn (size : Nat) (s t : State) : Prop :=
  t.fsm = .accum ∧ t.byteSize = some size ∧ s.len.toNat < t.len.toNat

/-- The only fault of a coherent state is LINK_CONTRACT (R38). -/
theorem Coherent.fault_eq_linkContract (h : Coherent s) (hfault : s.fault ≠ none) : s.fault = some .linkContract := by
  have hreach := h.reachable
  cases hf : s.fault with
  | none => exact absurd hf hfault
  | some f =>
    cases f with
    | linkContract => rfl
    | unreachableFsm => exact absurd hf hreach

/-- The end of a completed CAPTURE leads to IDLE wherever it keeps the invariant (R105, R109). -/
theorem completeFrame_idle (h : completeFrame s = .next t) (ht : Coherent t) : t.fsm = .idle := by
  rcases completeFrame_cases h with ⟨w, hh, img, -, -, -, -, rfl⟩ | rfl
  · rfl
  · exact absurd rfl ht.reachable

/-- In the invariant's loop the step of CAPTURE is a Read, for an open session and for LEN below BYTE_SIZE (R105, R107). -/
theorem Coherent.exec_capture_accum (h : Coherent s) (hfault : s.fault = none) (hfsm : s.fsm = .accum)
    (hsize : s.byteSize = some size) :
    s.cur = some .capture ∧ s.len.toNat < size ∧ size < 2 ^ 32 ∧ exec .capture s = accumulate size s := by
  obtain ⟨hsess, -, hcur, n, hn, hlen, -⟩ := (workOk_accum hfsm).mp h.work
  obtain rfl : size = n := by simpa [hsize] using hn
  obtain ⟨n, hn, -, hbound⟩ := byteSize_of_session h.session hsess
  obtain rfl : size = n := by simpa [hsize] using hn
  exact ⟨hcur, hlen, hbound, Machine.exec_capture_accum hfault hfsm hcur hsess hsize hlen⟩

/-- A Read of the loop with no pulse during it ends the CAPTURE, or brings at least one byte (R107, R110, R111). -/
theorem exec_capture_progress (h : Coherent s) (hfault : s.fault = none) (hfsm : s.fsm = .accum)
    (hsize : s.byteSize = some size) (htorn : s.torn = false) (hstep : exec .capture s = .next t) :
    Halted t ∨ GoesOn size s t := by
  obtain ⟨hcur, hlen, hbound, hexec⟩ := h.exec_capture_accum hfault hfsm hsize
  have ht := exec_accum_coherent h hfault hfsm hcur hstep
  rcases accumulate_cases (hexec ▸ hstep) with
    ⟨htrue, -⟩ | ⟨-, rfl⟩ | ⟨c, -, -, rfl⟩ | ⟨-, hinc⟩ | ⟨c, -, hc, hfit, happ⟩
  · simp [htorn] at htrue
  · exact .inl (.inl rfl)
  · exact .inl (.inr rfl)
  · cases hinc
    exact .inl (.inl rfl)
  · rw [afterAppend_eq] at happ
    split at happ
    · cases happ
      have hpos : 0 < c.length := List.length_pos_of_ne_nil hc
      refine .inr ⟨by simpa using hfsm, by simpa [State.byteSize] using hsize, ?_⟩
      rw [appendChunk_len, linkRead_len, len_add (by omega)]
      omega
    · exact .inl (.inl (completeFrame_idle happ ht))

/-- Every step from the loop does so, whatever the signals: a reset and a teardown leave FSM at IDLE (R93, R151). -/
theorem step_capture_progress (h : Coherent s) (hfault : s.fault = none) (hfsm : s.fsm = .accum)
    (hsize : s.byteSize = some size) : ∃ t, step s = .next t ∧ (Halted t ∨ GoesOn size s t) := by
  obtain ⟨hcur, -⟩ := h.exec_capture_accum hfault hfsm hsize
  obtain ⟨u, hu⟩ := exec_hasNext hfault .capture
  have hproceed : proceed s = .next u :=
    (proceed_flight (by simp [hfsm]) (by simp [hfsm]) (by simp [hfsm]) hcur).trans hu
  cases hsig : s.signal with
  | reset => exact ⟨_, step_reset hsig, .inl (.inl rfl)⟩
  | teardown => exact ⟨_, step_teardown hfault hsig, .inl (.inl rfl)⟩
  | quiet =>
    have hprogress : Halted u ∨ GoesOn size s u :=
      exec_capture_progress h hfault hfsm hsize (torn_of_quiet hsig) hu
    exact ⟨u.passSignal, by rw [step_quiet hfault hsig, hproceed, passed_next], hprogress⟩
  | teardownInStep =>
    have hstep := step_torn hfault hsig
    rw [hproceed] at hstep
    have hcoherent := exec_accum_coherent h hfault hfsm hcur hu
    cases hf : u.fault with
    | none => exact ⟨teardown u.passSignal, by simpa [tearAfter, hf] using hstep, .inl (.inl rfl)⟩
    | some f =>
      exact ⟨u.passSignal, by simpa [tearAfter, hf] using hstep,
        .inl (.inr (hcoherent.fault_eq_linkContract (by simp [hf])))⟩

/-- From the loop a CAPTURE halts within as many steps as bytes are missing (R113). -/
theorem run_capture_halts (h : Coherent s) (hfsm : s.fsm = .accum) (hsize : s.byteSize = some size) :
    ∃ k t, k ≤ size - s.len.toNat ∧ Host.Core.run Sys2Proof.core k s = .next t ∧ Halted t := by
  induction hmissing : size - s.len.toNat using Nat.strong_induction_on generalizing s with
  | _ missing ih =>
    by_cases hfault : s.fault = none
    · obtain ⟨-, hlen, -⟩ := h.exec_capture_accum hfault hfsm hsize
      obtain ⟨u, hstep, hhalt | ⟨hfsm', hsize', hmore⟩⟩ := step_capture_progress h hfault hfsm hsize
      · exact ⟨1, u, by omega, by rw [run_succ hstep, run_zero], hhalt⟩
      · obtain ⟨k, t, hk, hrun, ht⟩ :=
          ih (size - u.len.toNat) (by omega) (step_coherent h hstep) hfsm' hsize' rfl
        exact ⟨k + 1, t, by omega, by rw [run_succ hstep, hrun], ht⟩
    · exact ⟨0, s, Nat.zero_le _, run_zero s, .inr (h.fault_eq_linkContract hfault)⟩

/-! ## What an OK of CAPTURE rests on -/

/-- CAPTURE at the Read that completes its frame: the loop is under way, and the chunk `c` makes LEN equal BYTE_SIZE (R109). -/
structure Completing (size : Nat) (c : List Byte) (s t : State) : Prop where
  byteSize : s.byteSize = some size
  answer : s.readAnswer (size - s.len.toNat) = .chunk c
  length : s.len.toNat + c.length = size
  written : ∀ a, (Memory.read (Memory.write s.buf s.len.toNat c) a).isSome = true ↔ a < size
  complete : completeFrame (appendChunk c (linkRead (size - s.len.toNat) s)) = .next t

/-- Of the Reads of the loop only the one that completes the frame can end CAPTURE with OK (R109, R110, R114). -/
theorem exec_accum_completing {r : Response} (h : Coherent s) (hfault : s.fault = none) (hfsm : s.fsm = .accum)
    (hstep : exec .capture s = .next t) (hrsp : t.rsp = s.rsp ++ [r]) (hok : r.status = .ok) :
    ∃ size c, Completing size c s t := by
  obtain ⟨-, -, -, size, hsize, -, hbuf⟩ := (workOk_accum hfsm).mp h.work
  obtain ⟨-, hlen, hbound, hexec⟩ := h.exec_capture_accum hfault hfsm hsize
  rcases accumulate_cases (hexec ▸ hstep) with
    ⟨-, -, rfl⟩ | ⟨-, rfl⟩ | ⟨c, -, -, rfl⟩ | ⟨-, hinc⟩ | ⟨c, ha, -, hfit, happ⟩
  · simp at hrsp
  · obtain rfl : { status := .ioError } = r := by simpa using hrsp
    cases hok
  · simp at hrsp
  · cases hinc
    obtain rfl : _ = r := by simpa using hrsp
    cases hok
  · have hlen' : (appendChunk c (linkRead (size - s.len.toNat) s)).len.toNat = s.len.toNat + c.length := by
      rw [appendChunk_len, linkRead_len, len_add (by omega)]
    rw [afterAppend_eq, hlen'] at happ
    split at happ
    · cases happ
      simp at hrsp
    · have hfull : s.len.toNat + c.length = size := by omega
      have hwritten := appendChunk_written (c := c) (by omega) hbuf
      refine ⟨size, c, hsize, ha, hfull, fun a => ?_, happ⟩
      rw [← appendChunk_buf, hwritten, appendChunk_len, len_add (by omega), hfull]

/-- A CAPTURE that answers OK does so at the Read that completes its frame: before the loop it can end in an error only
(R97, R114, R141). -/
theorem exec_capture_completing {r : Response} (h : Coherent s) (hstep : exec .capture s = .next t)
    (hrsp : t.rsp = s.rsp ++ [r]) (hok : r.status = .ok) : ∃ size c, Completing size c s t := by
  have hoperate : operate .capture (acceptCommand true encCapture)
      (resumeCommand captureSent unreachable accumPhase) s = .next t := hstep
  obtain ⟨hfault, ⟨-, haccept⟩ | ⟨hflight, hcur, -⟩ | ⟨-, -, rfl⟩⟩ := operate_cases hoperate
  · exact absurd hok (acceptCommand_response haccept hrsp)
  · rcases h.fsm_cases with hfsm | hfsm | hfsm | hfsm
    · exact absurd hfsm hflight
    · rw [exec_capture_tx hfault hfsm hcur] at hstep
      obtain rfl := writePhase_response (fun u => captureSent_rsp u) hstep hrsp
      cases hok
    · obtain ⟨-, -, -, -, reg, hreg, -⟩ := (workOk_resp hfsm).mp h.work
      simp [hcur] at hreg
    · exact exec_accum_completing h hfault hfsm hstep hrsp hok
  · simp at hrsp

end

end Sys2Proof.Safety

namespace Sys2Proof.Proofs

open Sys2Proof.Machine Sys2Proof.Safety

/-- Settles O26: the write answered Ok, after which the loop begins with an empty buffer. -/
theorem captureSendsItsFrame : Obligations.CaptureSendsItsFrame := by
  intro s f hfault hfsm hcur htxf htorn ha
  rw [exec_capture_tx hfault hfsm hcur, writePhase_ok htorn htxf ha]
  rfl

/-- Settles O27: LEN is still below BYTE_SIZE after the append, and BUF reads as `read_write` says. -/
theorem captureAppendsAShortChunk : Obligations.CaptureAppendsAShortChunk := by
  intro s size c hfault hfsm hcur hsess hsize hbound htorn ha hc hshort
  have hlen : (s.len + BitVec.ofNat 32 c.length).toNat = s.len.toNat + c.length := len_add (by omega)
  refine ⟨appendChunk c (linkRead (size - s.len.toNat) s), ?_, (appendChunk_linkRead ha).trans (by simp), ?_, fun j hj => ?_,
    fun a hout => ?_⟩
  · rw [exec_capture_chunk hfault hfsm hcur hsess hsize htorn ha hc hshort.le, afterAppend_eq, if_pos]
    simpa [hlen] using hshort
  · simpa using hlen
  · simp [read_write, hj]
  · simp only [appendChunk_buf, linkRead_buf, linkRead_len, read_write]
    exact if_neg (by omega)

/-- Settles O28: the Read of zero bytes, and the response with the two counts. -/
theorem captureReportsAnIncompleteFrame : Obligations.CaptureReportsAnIncompleteFrame := by
  intro s size hfault hfsm hcur hsess hsize hlen htorn ha
  rw [exec_capture_empty hfault hfsm hcur hsess hsize hlen htorn ha, incomplete, finish_eq, respond_clearWork,
    linkRead_eq, ha]
  simp

/-- Settles O29: after the append every byte of the frame is written, so FrameDecode gives its image. -/
theorem captureCompletesOnTheLastChunk : Obligations.CaptureCompletesOnTheLastChunk := by
  intro s w h size c hfault hfsm hcur hsess hw hh hsize hbound hwritten htorn ha hc hlast
  subst hsize
  obtain ⟨img, himg⟩ := Option.isSome_iff_exists.mp
    (frameDecode_isSome fun a hsmall => read_write_isSome hwritten (hlast ▸ hsmall))
  obtain ⟨hwidth, hheight, hpixels⟩ := frameDecode_size himg
  refine ⟨img, ?_, hwidth, hheight, hpixels, fun _ _ => imageAt_frameDecode himg⟩
  have hlen : (s.len + BitVec.ofNat 32 c.length).toNat = byteSizeOf w h := (len_add (by omega)).trans hlast
  rw [exec_capture_chunk hfault hfsm hcur hsess (byteSize_some_iff.mpr ⟨w, h, hw, hh, rfl⟩) htorn ha hc hlast.le,
    afterAppend_eq, if_neg (by simp [hlen]), completeFrame_some (by simpa using hsess) (by simpa using hw)
      (by simpa using hh) (by simpa using himg), respond_clearWork, appendChunk_linkRead ha]
  simp

/-- Settles O31: every step from the loop ends it or brings at least one byte of those missing. -/
theorem captureEndsWithinItsMissingBytes : Obligations.CaptureEndsWithinItsMissingBytes :=
  fun _ _ => run_capture_halts

/-- Settles O32: OK comes from the Read that completes the frame, whose response carries FrameDecode of the written buffer. -/
theorem captureOkCarriesAWholeImage : Obligations.CaptureOkCarriesAWholeImage := by
  intro s t r hs hstep hrsp hok
  obtain ⟨size, c, hc⟩ := exec_capture_completing hs hstep hrsp hok
  rcases completeFrame_cases hc.complete with ⟨w, h, img, -, hwidth, hheight, himg, rfl⟩ | rfl
  · have hw : s.width = some w := by simpa using hwidth
    have hh : s.height = some h := by simpa using hheight
    obtain rfl : byteSizeOf w h = size := by simpa [State.byteSize, hw, hh] using hc.byteSize
    obtain rfl : { status := .ok, image := some img } = r := by simpa using hrsp
    exact ⟨w, h, img, c, _, hw, hh, hc.answer, hc.length, rfl, hc.written, rfl, by simpa using himg,
      frameDecode_size himg⟩
  · simp at hrsp

end Sys2Proof.Proofs
end

section
/-! SUPPORT. The pixel converter: the channel fields of a sample as arithmetic, the one next state of PIX_CONV, and the statement
about it. -/

namespace Sys2Proof.Machine

/-! ## The channel fields of a sample -/

/-- v[15:11] (R70). -/
theorem red5_toNat (v : Sample) : (red5 v).toNat = v.toNat / 2048 % 32 := by
  rw [red5, BitVec.extractLsb'_toNat, Nat.shiftRight_eq_div_pow]

/-- v[10:5] (R70). -/
theorem green6_toNat (v : Sample) : (green6 v).toNat = v.toNat / 32 % 64 := by
  rw [green6, BitVec.extractLsb'_toNat, Nat.shiftRight_eq_div_pow]

/-- v[4:0] (R70). -/
theorem blue5_toNat (v : Sample) : (blue5 v).toNat = v.toNat % 32 := by
  rw [blue5, BitVec.extractLsb'_toNat, Nat.shiftRight_zero]

/-! ## PIX_CONV -/

/-- With no fault PIX_CONV has one answer whatever the SCE is doing, and that answer is the output of its pixel (R117, R125). -/
theorem exec_pixConv {s : State} (hfault : s.fault = none) (v : Sample) :
    exec (.pixConv v) s = .next (emitPixel (pixelOf v) s) := by
  show execPixConv v s = _
  rw [execPixConv, hfault]

end Sys2Proof.Machine

namespace Sys2Proof.Proofs

open Sys2Proof.Machine

/-- Settles O33: the pixel is `pixelOf`, each of whose channels is the rescale, without overflow, of its field. -/
theorem pixConvCompletes : Obligations.PixConvCompletes := by
  intro s v hfault
  refine ⟨pixelOf v, exec_pixConv hfault v, ?red, ?green, ?blue⟩
  case red => exact (scale5_toNat (red5 v)).trans (by rw [red5_toNat])
  case green => exact (scale6_toNat (green6 v)).trans (by rw [green6_toNat])
  case blue => exact (scale5_toNat (blue5 v)).trans (by rw [blue5_toNat])

end Sys2Proof.Proofs
end

section
/-! SUPPORT. The pseudo-operations of the host: what they compute of a byte, bit by bit, and each action of the host in one,
with the statements about a single action (R127 to R133). -/

namespace Sys2Proof.Machine

/-! ## The bit computations -/

section

variable {bit : Word} {j : Nat}

/-- `1 << bit` is the one bit named. -/
theorem getLsbD_bitMask (hj : j < 8) : (1#8 <<< bit.toNat).getLsbD j = decide (j = bit.toNat) := by
  rw [show 1#8 <<< bit.toNat = BitVec.twoPow 8 bit.toNat from rfl, BitVec.getLsbD_twoPow]
  by_cases hbit : j = bit.toNat
  · simp [← hbit, hj]
  · simp [hbit, Ne.symm hbit]

theorem getLsbD_setBitOf (v : Byte) (hj : j < 8) :
    (setBitOf v bit).getLsbD j = if j = bit.toNat then true else v.getLsbD j := by
  rw [setBitOf, BitVec.getLsbD_or, getLsbD_bitMask hj]
  split <;> simp [*]

theorem getLsbD_clearBitOf (v : Byte) (hj : j < 8) :
    (clearBitOf v bit).getLsbD j = if j = bit.toNat then false else v.getLsbD j := by
  have hones : (0xFF#8).getLsbD j = true := by
    rw [show 0xFF#8 = BitVec.allOnes 8 from rfl, BitVec.getLsbD_allOnes, decide_eq_true hj]
  rw [clearBitOf, BitVec.getLsbD_and, BitVec.getLsbD_xor, hones, getLsbD_bitMask hj]
  split <;> simp [*]

/-- Shifting the named bit to place 0 and masking gives that bit as a number. -/
theorem getBitOf_eq_ite (v : Byte) (bit : Word) : getBitOf v bit = if v.getLsbD bit.toNat then 1 else 0 := by
  have hone : (v >>> bit.toNat).getLsbD 0 = v.getLsbD bit.toNat := by
    rw [BitVec.getLsbD_ushiftRight, Nat.add_zero]
  rw [getBitOf, BitVec.and_one_eq_setWidth_ofBool_getLsbD, hone]
  cases v.getLsbD bit.toNat <;> rfl

end

/-! ## The host's actions -/

section

variable {s : State} {op : HelperOp} {reg bit : Word} {h : Helper} {r : Response}

/-- An operand out of range ends the pseudo-operation before any request (R130). -/
theorem exec_helper_badArgs (hready : s.ready = true) (hhelper : s.helper = none)
    (hargs : inRange8 reg = false ∨ bitIndexOk bit = false) :
    exec (op.instr reg bit) s = .next (finishHelper { status := .invalidArgument } s) := by
  obtain ⟨hidle, hfault⟩ := (ready_iff s).mp hready
  have hcheck : (inRange8 reg && bitIndexOk bit) = false := Bool.and_eq_false_iff.mpr hargs
  rw [exec_helper]
  simp [runHelper, startHelper, hfault, hidle, hhelper, hcheck]

/-- READY with its request answered, a pseudo-operation goes on from the last response (R131). -/
theorem exec_helper_response (hready : s.ready = true) (hhelper : s.helper = some h) (hrsp : s.rsp.getLast? = some r) :
    exec (h.op.instr h.reg h.bit) s = useResponse h r s := by
  obtain ⟨hidle, hfault⟩ := (ready_iff s).mp hready
  rw [exec_helper]
  simp [runHelper, continueHelper, hfault, hidle, hhelper, hrsp]

/-- A response other than OK is the result, whichever request it answers (R133). -/
theorem useResponse_error (herr : r.status ≠ .ok) :
    useResponse h r s = .next (finishHelper { status := r.status } s) := by
  unfold useResponse
  cases h.phase with
  | awaitRead => exact if_neg herr
  | awaitWrite => rfl

/-- The host issues its REG_WRITE, accepted with one flush in the same step (R97, R127, R128). -/
theorem issueWrite_accepted {b : Byte} (hready : s.ready = true) (hsess : s.sess = true) (hreg : h.reg.toNat ≤ 0xFF)
    (htorn : s.torn = false) (ha : s.lineAnswer = .ok) :
    issueWrite h b s = .next { s.takeAnswer with
      helper := some { h with phase := .awaitWrite }, cur := some (.regWrite h.reg (zextWord b)),
      txf := some [0xAA, lowByte h.reg, b], fsm := .tx, hist := s.hist ++ [.flush .ok] } := by
  have hwf : (Instr.regWrite h.reg (zextWord b)).wf = true :=
    Bool.and_eq_true_iff.mpr ⟨decide_eq_true hreg, inRange8_zext b⟩
  have hframe : encodeFrame (.regWrite h.reg (zextWord b)) = some [0xAA, lowByte h.reg, b] := by
    rw [encodeFrame, encWrite, lowByte_zext]
  have haccept := Proofs.commandIsAcceptedWithOneFlush (awaiting { h with phase := .awaitWrite } s) _ _ hready hsess hwf
    hframe htorn ha
  rw [awaiting_takeAnswer] at haccept
  exact haccept

end

end Sys2Proof.Machine

namespace Sys2Proof.Proofs

open Sys2Proof.Machine

/-- Settles O42: each bit of the mask `1 << bit` is known, and the shift brings the named bit to place 0. -/
theorem bitOperationsActOnOneBit : Obligations.BitOperationsActOnOneBit :=
  fun v bit _ _ hj => ⟨getLsbD_setBitOf v hj, getLsbD_clearBitOf v hj, getBitOf_eq_ite v bit⟩

/-- Settles O37: the operand check comes before the first request. -/
theorem pseudoOperandCheckSendsNothing : Obligations.PseudoOperandCheckSendsNothing := by
  intro s op reg bit hready hhelper hargs
  have hcheck : inRange8 reg = false ∨ bitIndexOk bit = false :=
    hargs.symm.imp (fun hreg => decide_eq_false (by omega)) (fun hbit => decide_eq_false (by omega))
  rw [exec_helper_badArgs hready hhelper hcheck, finishHelper, hhelper]

/-- Settles O38: the operands pass the check, and the REG_READ is accepted as any command is. -/
theorem pseudoOperationBeginsWithItsRead : Obligations.PseudoOperationBeginsWithItsRead := by
  intro s op reg bit hready hhelper hsess hreg hbit htorn ha
  obtain ⟨hidle, hfault⟩ := (ready_iff s).mp hready
  have hwf : (Instr.regRead reg).wf = true := decide_eq_true hreg
  have haccept := commandIsAcceptedWithOneFlush
    (awaiting { op := op, reg := reg, bit := bit, phase := .awaitRead } s) _ _ hready hsess hwf rfl htorn ha
  rw [awaiting_takeAnswer] at haccept
  exact (exec_helper_start hfault hidle hhelper hwf (decide_eq_true hbit)).trans haccept

/-- Settles O39: the value read, with its bit changed, is the operand of the REG_WRITE the host issues. -/
theorem setAndClearWriteTheReadValueBack : Obligations.SetAndClearWriteTheReadValueBack := by
  intro s reg bit v hready hsess hreg htorn ha hrsp
  constructor
  · intro hhelper
    have hissue : exec (.setBit reg bit) s = issueWrite _ (setBitOf v bit) s := exec_helper_response hready hhelper hrsp
    exact hissue.trans (issueWrite_accepted hready hsess hreg htorn ha)
  · intro hhelper
    have hissue : exec (.clearBit reg bit) s = issueWrite _ (clearBitOf v bit) s := exec_helper_response hready hhelper hrsp
    exact hissue.trans (issueWrite_accepted hready hsess hreg htorn ha)

/-- Settles O40: the response of a REG_WRITE is the result, and GET_BIT's is the bit of the value read. -/
theorem pseudoOperationsComplete : Obligations.PseudoOperationsComplete := by
  intro s reg bit r hready hrsp
  refine ⟨fun hhelper => exec_helper_response hready hhelper hrsp,
    fun hhelper => exec_helper_response hready hhelper hrsp, fun v hr _ hhelper => ?_⟩
  subst hr
  rw [← getBitOf_eq_ite]
  exact exec_helper_response hready hhelper hrsp

/-- Settles O41: a response other than OK ends the pseudo-operation in either phase. -/
theorem pseudoErrorsPropagateUnchanged : Obligations.PseudoErrorsPropagateUnchanged :=
  fun _ _ _ hready hhelper hrsp herr => (exec_helper_response hready hhelper hrsp).trans (useResponse_error herr)

end Sys2Proof.Proofs
end

section
/-! SUPPORT. A whole SET_BIT as a run: each action of the host, and each command it issues, as the beginning of a run with no
signal to come, and the statement about the six steps (R127, R131). -/

namespace Sys2Proof.Machine

variable {s t : State} {reg bit : Word} {v : Byte} {f c : List Byte} {rest : List LinkAnswer} {k : Nat}

/-! ## The host's actions -/

/-- READY with a pseudo-operation offered: the host begins it with its REG_READ (R131). -/
theorem run_helper_begins {op : HelperOp} {lines : List HostLine} (hready : s.ready = true) (hhelper : s.helper = none)
    (hsig : s.signals = []) (hsess : s.sess = true) (hreg : reg.toNat ≤ 0xFF) (hbit : bit.toNat ≤ 7)
    (hreq : s.hostReq = .pseudo op reg bit :: lines) (hlink : s.link = .done c :: rest) :
    Host.Core.run Sys2Proof.core (k + 1) s = Host.Core.run Sys2Proof.core k { s with
      hostReq := lines, link := rest, helper := some { op := op, reg := reg, bit := bit, phase := .awaitRead },
      cur := some (.regRead reg), txf := some [0xBB, lowByte reg], fsm := .tx, hist := s.hist ++ [.flush .ok] } := by
  obtain ⟨hidle, hfault⟩ := (ready_iff s).mp hready
  have hexec := Proofs.pseudoOperationBeginsWithItsRead (leaveLines lines s) op reg bit hready hhelper hsess hreg hbit
    (torn_of_signals_nil hsig) (lineAnswer_done hlink)
  rw [leaveLines_takeAnswer, (answer_script hlink).2] at hexec
  exact run_succ (step_of_signals_nil hfault hsig ((proceed_offer hidle hhelper hreq rfl).trans hexec) hsig) k

/-- READY with a pseudo-operation in progress: the host's next action in it (R131). -/
theorem run_helper {h : Helper} (hready : s.ready = true) (hsig : s.signals = []) (hhelper : s.helper = some h)
    (hexec : exec (h.op.instr h.reg h.bit) s = .next t) (ht : t.signals = []) :
    Host.Core.run Sys2Proof.core (k + 1) s = Host.Core.run Sys2Proof.core k t := by
  obtain ⟨hidle, hfault⟩ := (ready_iff s).mp hready
  exact run_succ (step_of_signals_nil hfault hsig ((proceed_helper hidle hhelper).trans hexec) ht) k

/-- SET_BIT goes on from the value read with its REG_WRITE (R127). -/
theorem run_setBit_writes (hready : s.ready = true) (hsig : s.signals = []) (hsess : s.sess = true)
    (hreg : reg.toNat ≤ 0xFF) (hhelper : s.helper = some { op := .set, reg := reg, bit := bit, phase := .awaitRead })
    (hrsp : s.rsp.getLast? = some { status := .ok, value := some v }) (hlink : s.link = .done c :: rest) :
    Host.Core.run Sys2Proof.core (k + 1) s = Host.Core.run Sys2Proof.core k { s with
      link := rest, helper := some { op := .set, reg := reg, bit := bit, phase := .awaitWrite },
      cur := some (.regWrite reg (zextWord (v ||| (1#8 <<< bit.toNat)))),
      txf := some [0xAA, lowByte reg, v ||| (1#8 <<< bit.toNat)], fsm := .tx, hist := s.hist ++ [.flush .ok] } := by
  have hexec := (Proofs.setAndClearWriteTheReadValueBack s reg bit v hready hsess hreg (torn_of_signals_nil hsig)
    (lineAnswer_done hlink) hrsp).1 hhelper
  rw [(answer_script hlink).2] at hexec
  exact run_helper hready hsig hhelper hexec hsig

/-- SET_BIT ends with the status of its REG_WRITE (R127). -/
theorem run_setBit_ends {r : Response} (hready : s.ready = true) (hsig : s.signals = [])
    (hhelper : s.helper = some { op := .set, reg := reg, bit := bit, phase := .awaitWrite })
    (hrsp : s.rsp.getLast? = some r) :
    Host.Core.run Sys2Proof.core (k + 1) s = Host.Core.run Sys2Proof.core k { s with
      helper := none, results := s.results ++ [{ status := r.status }] } :=
  run_helper hready hsig hhelper ((Proofs.pseudoOperationsComplete s reg bit r hready hrsp).1 hhelper) hsig

/-! ## The commands it issues -/

/-- A command in flight in TX or RESP: its next step (R25). -/
theorem run_flight {i : Instr} (hfault : s.fault = none) (hsig : s.signals = []) (hfsm : s.fsm = .tx ∨ s.fsm = .resp)
    (hcur : s.cur = some i) (hexec : exec i s = .next t) (ht : t.signals = []) :
    Host.Core.run Sys2Proof.core (k + 1) s = Host.Core.run Sys2Proof.core k t := by
  have hproceed : proceed s = .next t := by
    rw [proceed_flight _ _ _ hcur, hexec] <;> rcases hfsm with hfsm | hfsm <;> simp [hfsm]
  exact run_succ (step_of_signals_nil hfault hsig hproceed ht) k

/-- A REG_READ with its frame to write: the write answered Ok (R97, R100). -/
theorem run_regRead_sends (hfault : s.fault = none) (hsig : s.signals = []) (hfsm : s.fsm = .tx)
    (hcur : s.cur = some (.regRead reg)) (htxf : s.txf = some f) (hlink : s.link = .done c :: rest) :
    Host.Core.run Sys2Proof.core (k + 1) s = Host.Core.run Sys2Proof.core k { s with
      link := rest, hist := s.hist ++ [.write f .ok], txf := none, fsm := .resp } := by
  have hexec := Proofs.regReadSendsItsFrame s reg f hfault hfsm hcur htxf (torn_of_signals_nil hsig) (lineAnswer_done hlink)
  rw [(answer_script hlink).2] at hexec
  exact run_flight hfault hsig (.inl hfsm) hcur hexec hsig

/-- A REG_READ at its Read, which brings a byte (R100, R101). -/
theorem run_regRead_returns (hfault : s.fault = none) (hsig : s.signals = []) (hfsm : s.fsm = .resp)
    (hcur : s.cur = some (.regRead reg)) (hlink : s.link = .done [v] :: rest) :
    Host.Core.run Sys2Proof.core (k + 1) s = Host.Core.run Sys2Proof.core k { s with
      link := rest, hist := s.hist ++ [.read 1 (.chunk [v])], rsp := s.rsp ++ [{ status := .ok, value := some v }],
      cur := none, txf := none, fsm := .idle } := by
  have hexec := Proofs.regReadReturnsTheByte s reg v hfault hfsm hcur (torn_of_signals_nil hsig) (readAnswer_done hlink 1)
  rw [(answer_script hlink).2] at hexec
  exact run_flight hfault hsig (.inr hfsm) hcur hexec hsig

/-- A REG_WRITE with its frame to write: the write answered Ok (R97, R99). -/
theorem run_regWrite_completes {value : Word} (hfault : s.fault = none) (hsig : s.signals = []) (hfsm : s.fsm = .tx)
    (hcur : s.cur = some (.regWrite reg value)) (htxf : s.txf = some f) (hlink : s.link = .done c :: rest) :
    Host.Core.run Sys2Proof.core (k + 1) s = Host.Core.run Sys2Proof.core k { s with
      link := rest, hist := s.hist ++ [.write f .ok], rsp := s.rsp ++ [{ status := .ok }],
      cur := none, txf := none, fsm := .idle } := by
  have hexec := Proofs.regWriteCompletes s reg value f hfault hfsm hcur htxf (torn_of_signals_nil hsig)
    (lineAnswer_done hlink)
  rw [(answer_script hlink).2] at hexec
  exact run_flight hfault hsig (.inl hfsm) hcur hexec hsig

end Sys2Proof.Machine

namespace Sys2Proof.Proofs

open Sys2Proof.Machine

/-- Settles O43: the host's three actions and, between them, the steps of the two commands it issues. -/
theorem setBitRunsReadThenWrite : Obligations.SetBitRunsReadThenWrite := by
  intro s reg bit v a b d e rest lines hready hhelper hsig hsess hreg hbit hreq hlink
  obtain ⟨hidle, hfault⟩ := (ready_iff s).mp hready
  refine Eq.trans (run_helper_begins hready hhelper hsig hsess hreg hbit hreq hlink) ?_
  refine Eq.trans (run_regRead_sends hfault hsig rfl rfl rfl rfl) ?_
  refine Eq.trans (run_regRead_returns hfault hsig rfl rfl rfl) ?_
  refine Eq.trans (run_setBit_writes ((ready_iff _).mpr ⟨rfl, hfault⟩) hsig hsess hreg rfl List.getLast?_concat rfl) ?_
  refine Eq.trans (run_regWrite_completes hfault hsig rfl rfl rfl rfl) ?_
  refine Eq.trans (run_setBit_ends ((ready_iff _).mpr ⟨rfl, hfault⟩) hsig rfl List.getLast?_concat) ?_
  rw [run_zero]
  simp [hhelper, hidle]

end Sys2Proof.Proofs
end

section
/-! SUPPORT. How an operation ends: its response with a status of its own row, which leaves nothing of the operation behind
(R136, R138, R139), and the cleanup after a Disconnected answer (R143). -/

namespace Sys2Proof.Safety

open Sys2Proof.Machine

section

variable {allowed : List Status} {s t u : State}

/-! ## One response, of an allowed status -/

/-- An operation in flight at `s` is still in flight at `t` with nothing sent, or has ended with one response, of an allowed
status (R136, R138). -/
def Served (allowed : List Status) (s t : State) : Prop :=
  (t.cur = s.cur ∧ t.rsp = s.rsp) ∨
    (t.cur = none ∧ t.fsm = .idle ∧ ∃ r, t.rsp = s.rsp ++ [r] ∧ r.status ∈ allowed)

/-- `Served` looks at CUR and the responses only of the state before. -/
theorem Served.preceded (h : Served allowed u t) (hcur : u.cur = s.cur) (hrsp : u.rsp = s.rsp) : Served allowed s t := by
  unfold Served
  rw [← hcur, ← hrsp]
  exact h

/-- A response ends the operation (R138). -/
theorem served_respond {r : Response} (hrsp : u.rsp = s.rsp) (hr : r.status ∈ allowed) :
    Served allowed s (respond r u) :=
  .inr ⟨rfl, rfl, r, by simp [hrsp], hr⟩

/-- The cleanup of R143 ends it with IO_ERROR. -/
theorem served_ioError (hio : .ioError ∈ allowed) (hrsp : u.rsp = s.rsp) : Served allowed s (ioError u) :=
  served_respond (u := closeLink (clearWork u)) hrsp hio

theorem served_unreachable (h : unreachable s = .next t) : Served allowed s t := by
  cases h
  exact .inl ⟨rfl, rfl⟩

/-- The one response that a step of a served operation sends has an allowed status. -/
theorem Served.status_mem {r : Response} (h : Served allowed s t) (hrsp : t.rsp = s.rsp ++ [r]) : r.status ∈ allowed := by
  rcases h with ⟨-, hsame⟩ | ⟨-, -, q, hq, hstatus⟩
  · simp [hsame] at hrsp
  · obtain rfl : q = r := by simpa [hq] using hrsp
    exact hstatus

/-! ## The phases of a command -/

theorem flushPhase_served (hio : .ioError ∈ allowed) (h : flushPhase s = .next t) : Served allowed s t := by
  rcases flushPhase_cases h with ⟨-, rfl⟩ | ⟨-, -, rfl⟩ | ⟨-, -, rfl⟩
  · exact .inl (by simp)
  · exact .inl (by simp)
  · exact served_ioError hio (by simp)

theorem writePhase_served {sent : State → State} (hio : .ioError ∈ allowed)
    (hsent : ∀ u, Served allowed u (sent u)) (h : writePhase sent s = .next t) : Served allowed s t := by
  rcases writePhase_cases h with ⟨-, rfl⟩ | ⟨f, -, ⟨-, rfl⟩ | ⟨-, -, rfl⟩ | ⟨-, -, rfl⟩⟩
  · exact .inl ⟨rfl, rfl⟩
  · exact .inl (by simp)
  · exact (hsent _).preceded (by simp) (by simp)
  · exact served_ioError hio (by simp)

theorem readPhase_served {n : Nat} {got : List Byte → Answer} (hio : .ioError ∈ allowed)
    (hgot : ∀ c, got c = .next t → Served allowed (linkRead n s) t) (h : readPhase n got s = .next t) :
    Served allowed s t := by
  rcases readPhase_cases h with ⟨-, -, rfl⟩ | ⟨-, rfl⟩ | ⟨c, -, -, rfl⟩ | ⟨c, -, -, hc⟩
  · exact .inl (by simp)
  · exact served_ioError hio (by simp)
  · exact .inl (by simp)
  · exact (hgot c hc).preceded (by simp) (by simp)

theorem readResponse_served (hio : .ioError ∈ allowed) (hok : .ok ∈ allowed) (htimeout : .responseTimeout ∈ allowed)
    (h : readResponse s = .next t) : Served allowed s t := by
  refine readPhase_served hio (fun c hc => ?_) h
  cases c with
  | nil => cases hc; exact served_respond rfl htimeout
  | cons v rest => cases hc; exact served_respond rfl hok

theorem completeFrame_served (hok : .ok ∈ allowed) (h : completeFrame s = .next t) : Served allowed s t := by
  rcases completeFrame_cases h with ⟨w, hh, img, -, -, -, -, rfl⟩ | rfl
  · exact served_respond rfl hok
  · exact .inl ⟨rfl, rfl⟩

theorem accumulate_served {size : Nat} (hio : .ioError ∈ allowed) (hok : .ok ∈ allowed)
    (hinc : .incompleteFrame ∈ allowed) (h : accumulate size s = .next t) : Served allowed s t := by
  refine readPhase_served hio (fun c hc => ?_) h
  split at hc
  · cases hc
    exact served_respond rfl hinc
  · rw [afterAppend_eq] at hc
    split at hc
    · cases hc
      exact .inl ⟨rfl, rfl⟩
    · exact (completeFrame_served hok hc).preceded rfl rfl

theorem accumPhase_served (hio : .ioError ∈ allowed) (hok : .ok ∈ allowed) (hinc : .incompleteFrame ∈ allowed)
    (h : accumPhase s = .next t) : Served allowed s t := by
  unfold accumPhase at h
  split at h
  · exact served_unreachable h
  · split at h
    · exact accumulate_served hio hok hinc h
    · exact completeFrame_served hok h

/-! ## The operations -/

/-- A command without operands to check never answers INVALID_ARGUMENT (R95). -/
theorem acceptCommand_served {argsOk : Bool} {f : List Byte} (hio : .ioError ∈ allowed)
    (hargs : argsOk = false → .invalidArgument ∈ allowed) (hstate : .invalidState ∈ allowed)
    (h : acceptCommand argsOk f s = .next t) : Served allowed s t := by
  rcases acceptCommand_cases h with ⟨hbad, rfl⟩ | ⟨-, -, rfl⟩ | ⟨-, -, hflush⟩
  · exact served_respond rfl (hargs hbad)
  · exact served_respond rfl hstate
  · exact (flushPhase_served hio hflush).preceded rfl rfl

theorem resumeCommand_served {sent : State → State} {resp accum : State → Answer} (hio : .ioError ∈ allowed)
    (hsent : ∀ u, Served allowed u (sent u)) (hresp : resp s = .next t → Served allowed s t)
    (haccum : accum s = .next t → Served allowed s t) (h : resumeCommand sent resp accum s = .next t) :
    Served allowed s t := by
  rcases resumeCommand_cases h with rfl | ⟨-, h⟩ | ⟨-, h⟩ | ⟨-, h⟩ | ⟨-, h⟩
  · exact .inl ⟨rfl, rfl⟩
  · exact flushPhase_served hio h
  · exact writePhase_served hio hsent h
  · exact hresp h
  · exact haccum h

theorem acceptOpen_served {w hh : Word} {baud timeout : Option Word} (hok : .ok ∈ allowed)
    (hargs : .invalidArgument ∈ allowed) (hstate : .invalidState ∈ allowed) (hconn : .connectionError ∈ allowed)
    (h : acceptOpen w hh baud timeout s = .next t) : Served allowed s t := by
  rcases acceptOpen_cases h with ⟨-, rfl⟩ | ⟨-, -, rfl⟩ | ⟨b, ms, -, -, -, -, ⟨-, rfl⟩ | ⟨-, rfl⟩⟩
  · exact served_respond rfl hargs
  · exact served_respond rfl hstate
  · exact served_respond (by simp) hconn
  · exact served_respond (by simp) hok

/-- An operation holds while another one is in flight; else it is served from the state in which it is latched (R89). -/
theorem operate_served {i : Instr} {accept resume : State → Answer}
    (haccept : ∀ u, accept u = .next t → Served allowed u t) (hresume : resume s = .next t → Served allowed s t)
    (h : operate i accept resume s = .next t) : t = s ∨ Served allowed (latch i s) t := by
  obtain ⟨-, ⟨-, h⟩ | ⟨-, hcur, h⟩ | ⟨-, -, hsame⟩⟩ := operate_cases h
  · exact .inr (haccept _ h)
  · exact .inr ((hresume h).preceded hcur rfl)
  · exact .inl hsame

/-- Every operation of the SCE ends with a status of its row, and ABORTED is no operation's own (R136). -/
theorem exec_served {i : Instr} (hi : operationStatuses i = some allowed) (h : exec i s = .next t) :
    t = s ∨ Served (allowed.filter (· ≠ .aborted)) (latch i s) t := by
  cases i with
  | openSession w hh baud timeout =>
    cases hi
    exact operate_served (fun _ => acceptOpen_served (by decide) (by decide) (by decide) (by decide))
      served_unreachable h
  | close =>
    cases hi
    refine operate_served (fun u hu => ?_) served_unreachable h
    cases hu
    exact served_respond rfl (by decide)
  | regWrite reg value =>
    cases hi
    exact operate_served (fun _ => acceptCommand_served (by decide) (fun _ => by decide) (by decide))
      (resumeCommand_served (by decide) (fun _ => served_respond rfl (by decide)) served_unreachable
        served_unreachable) h
  | regRead reg =>
    cases hi
    exact operate_served (fun _ => acceptCommand_served (by decide) (fun _ => by decide) (by decide))
      (resumeCommand_served (sent := regReadSent) (by decide) (fun _ => .inl ⟨rfl, rfl⟩)
        (readResponse_served (by decide) (by decide) (by decide)) served_unreachable) h
  | capture =>
    cases hi
    exact operate_served (fun _ => acceptCommand_served (argsOk := true) (by decide) nofun (by decide))
      (resumeCommand_served (sent := captureSent) (by decide) (fun _ => .inl ⟨rfl, rfl⟩) served_unreachable
        (accumPhase_served (by decide) (by decide) (by decide))) h
  | _ => cases hi

/-! ## The step of an operation in flight -/

/-- What is latched in a coherent state is a command in flight, which has a row of statuses (R34, R136). -/
theorem Coherent.flight_of_cur {i : Instr} (h : Coherent s) (hcur : s.cur = some i) :
    s.fsm ≠ .idle ∧ ∃ allowed, operationStatuses i = some allowed := by
  rcases h.fsm_cases with hfsm | hfsm | hfsm | hfsm
  · obtain ⟨hnone, -⟩ := (workOk_idle hfsm).mp h.work
    simp [hcur] at hnone
  · obtain ⟨-, -, -, j, f, hj, -, hf, -⟩ := (workOk_tx hfsm).mp h.work
    obtain rfl : i = j := by simpa [hcur] using hj
    refine ⟨by simp [hfsm], ?_⟩
    cases i with
    | regWrite | regRead | capture => exact ⟨_, rfl⟩
    | _ => cases hf
  · obtain ⟨-, -, -, -, reg, hreg, -⟩ := (workOk_resp hfsm).mp h.work
    obtain rfl : i = .regRead reg := by simpa [hcur] using hreg
    exact ⟨by simp [hfsm], _, rfl⟩
  · obtain ⟨-, -, hcap, -⟩ := (workOk_accum hfsm).mp h.work
    obtain rfl : i = .capture := by simpa [hcur] using hcap
    exact ⟨by simp [hfsm], _, rfl⟩

/-- Between the boundaries of a step the operation in flight is served. -/
theorem proceed_served {i : Instr} (h : Coherent s) (hcur : s.cur = some i) (hstep : proceed s = .next t) :
    ∃ allowed, Served allowed s t := by
  obtain ⟨hflight, allowed, hi⟩ := h.flight_of_cur hcur
  have hproceed : proceed s = exec i s := by
    rcases h.fsm_cases with hfsm | hfsm | hfsm | hfsm <;>
      exact proceed_flight hflight (by simp [hfsm]) (by simp [hfsm]) hcur
  rcases exec_served hi (hproceed ▸ hstep) with rfl | hserved
  · exact ⟨allowed, .inl ⟨rfl, rfl⟩⟩
  · exact ⟨_, hserved.preceded hcur.symm rfl⟩

/-- A teardown at the boundary answers ABORTED for an operation still in flight, and adds nothing to one that has ended
(R93). -/
theorem Served.teardown {i : Instr} (h : Served allowed s t) (hcur : s.cur = some i) :
    ∃ r, (teardown t).rsp = s.rsp ++ [r] := by
  rcases h with ⟨hsame, hrsp⟩ | ⟨hnone, -, r, hrsp, -⟩
  · exact ⟨{ status := .aborted }, by simp [hsame, hcur, hrsp]⟩
  · exact ⟨r, by simp [hnone, hrsp]⟩

/-! ## The state after a response -/

/-- A step that sends a response leaves no operation latched: the operation has ended, or was torn down (R93, R138). -/
theorem step_response_cur {r : Response} (hstep : step s = .next t) (hrsp : t.rsp = s.rsp ++ [r]) : t.cur = none := by
  have hended : ∀ v, proceed s = .next v → v.rsp = s.rsp ++ [r] → v.cur = none := fun v hv hr => by
    rcases (proceed_progress hv).rsp with hsame | ⟨hnone, -⟩
    · simp [hsame] at hr
    · exact hnone
  rcases step_cases hstep with ⟨-, rfl⟩ | ⟨-, -, rfl⟩ | ⟨-, -, v, hv, rfl⟩ | ⟨-, -, v, hv, ⟨-, rfl⟩ | ⟨-, rfl⟩⟩
  · rfl
  · rfl
  · exact hended v hv hrsp
  · rfl
  · exact hended v hv hrsp

/-- With no operation latched the invariant leaves the working registers as at the start of an operation (R139). -/
theorem Coherent.workCleared (h : Coherent s) (hcur : s.cur = none) : workCleared s = true := by
  have hidle : s.fsm = .idle := by
    by_contra hfsm
    obtain ⟨i, hi⟩ := h.cur_of_flight hfsm
    simp [hcur] at hi
  obtain ⟨-, htxf, hlen, hbuf⟩ := (workOk_idle hidle).mp h.work
  simp [Safety.workCleared, hidle, hcur, htxf, hlen, hbuf]

/-- An error response carries no value and no image (R138, R139). -/
theorem ResponseOk.no_result_of_error {r : Response} (h : ResponseOk r) (herr : r.status ≠ .ok) :
    r.value = none ∧ r.image = none := by
  obtain ⟨hvalue, himage, -⟩ := h
  exact ⟨Option.not_isSome_iff_eq_none.mp fun hv => herr (hvalue hv),
    Option.not_isSome_iff_eq_none.mp fun hi => herr (himage hi)⟩

end

end Sys2Proof.Safety

namespace Sys2Proof.Machine

/-! ## The checks that end an operation before or at the link -/

/-- A command without a session ends in its acceptance step, before any link event (R141). -/
theorem exec_command_closed {i : Instr} {f : List Byte} {s : State} (hf : encodeFrame i = some f)
    (hready : s.ready = true) (hwf : i.wf = true) (hsess : s.sess = false) :
    exec i s = .next { s with rsp := s.rsp ++ [{ status := .invalidState }], cur := none, txf := none } := by
  obtain ⟨hidle, hfault⟩ := (ready_iff s).mp hready
  rw [exec_command_idle hf hfault hidle, hwf, acceptCommand_closed (by simpa using hsess), respond_latch hidle]

theorem acceptOpen_unavailable {s : State} {w h : Word} {baud timeout : Option Word}
    (hsup : supported s.params w h = true) (hsess : s.sess = false) (ha : s.openAnswer = .unavailable) :
    acceptOpen w h baud timeout s =
      .next (respond { status := .connectionError }
        (linkOpen (baud.getD s.params.baudDefault) (timeout.getD s.params.timeoutDefault) s)) := by
  simp [acceptOpen, hsup, hsess, openLink, ha, finish_eq]

/-! ## A Disconnected answer -/

section

variable {s : State} {i : Instr} {f : List Byte}

/-- The cleanup of an open session after the failed primitive's event, as one record update (R143). -/
theorem ioError_record (hsess : s.sess = true) (e : LinkEvent) :
    ioError (s.takeAnswer.record e) =
      { s.takeAnswer with
        len := 0, buf := [], txf := none, hist := s.hist ++ [e, .closing], sess := false,
        rsp := s.rsp ++ [{ status := .ioError }], cur := none, fsm := .idle } := by
  simp [ioError, respond, closeLink, clearWork, State.record, hsess]

/-- The cleanup overwrites what the acceptance of the command has latched (R97, R143). -/
theorem ioError_linkFlush_accepted (f : List Byte) (i : Instr) (s : State) :
    ioError (linkFlush (loadFrame f (latch i s))) = ioError (linkFlush s) := by
  rw [linkFlush_accepted, linkFlush_eq]
  rfl

/-- The flush of a command that is being accepted is answered Disconnected (R85, R97). -/
theorem exec_flush_disconnected (hf : encodeFrame i = some f) (hfault : s.fault = none) (hidle : s.fsm = .idle)
    (hwf : i.wf = true) (hsess : s.sess = true) (htorn : s.torn = false) (ha : s.lineAnswer = .disconnected) :
    exec i s = .next (ioError (s.takeAnswer.record (.flush .disconnected))) := by
  rw [exec_command_accepted hf hfault hidle hwf hsess, flushPhase_eq (by simpa using htorn), if_neg (by simp [ha]),
    ioError_linkFlush_accepted, linkFlush, ha]

/-- The write of a command is answered Disconnected (R86, R97). -/
theorem exec_write_disconnected {g : List Byte} (hf : encodeFrame i = some f) (hfault : s.fault = none)
    (hfsm : s.fsm = .tx) (hcur : s.cur = some i) (htxf : s.txf = some g) (htorn : s.torn = false)
    (ha : s.lineAnswer = .disconnected) :
    exec i s = .next (ioError (s.takeAnswer.record (.write g .disconnected))) := by
  obtain ⟨sent, resp, accum, hexec⟩ := exec_command hf
  rw [hexec, operate_tx hfault hfsm hcur, writePhase_some htorn htxf, if_neg (by simp [ha]), linkWrite, ha]

/-- A Read of a command is answered Disconnected (R87, R100, R105). -/
theorem exec_read_disconnected {n : Nat} (h : AtRead i n s) (hfault : s.fault = none) (hcur : s.cur = some i)
    (htorn : s.torn = false) (ha : s.readAnswer n = .disconnected) :
    exec i s = .next (ioError (s.takeAnswer.record (.read n .disconnected))) := by
  obtain ⟨got, hexec⟩ := exec_atRead h hfault hcur
  rw [hexec, readPhase_use htorn, ha, linkRead, ha]

end

end Sys2Proof.Machine

namespace Sys2Proof.Proofs

open Sys2Proof.Machine Sys2Proof.Safety

/-- Settles O25: at each primitive the step is the IO_ERROR cleanup, which leaves the SCE READY without a session. -/
theorem disconnectClosesTheSession : Obligations.DisconnectClosesTheSession := by
  intro s i f hfault hsess hf htorn e hplace
  have hexec : exec i s = .next (ioError (s.takeAnswer.record e)) := by
    rcases hplace with ⟨hidle, hwf, ha, rfl⟩ | ⟨hfsm, hcur, g, htxf, ha, rfl⟩ | ⟨hfsm, hcur, hreg, ha, rfl⟩ |
        ⟨hfsm, hcur, hcap, size, hsize, hlen, ha, rfl⟩
    · exact exec_flush_disconnected hf hfault hidle hwf hsess htorn ha
    · exact exec_write_disconnected hf hfault hfsm hcur htxf htorn ha
    · exact exec_read_disconnected (.inl ⟨hfsm, hreg, rfl⟩) hfault hcur htorn ha
    · exact exec_read_disconnected (.inr ⟨size, hfsm, hcap, hsess, hsize, hlen, rfl⟩) hfault hcur htorn ha
  have hready : (ioError (s.takeAnswer.record e)).ready = true := (ready_iff _).mpr ⟨rfl, by simpa using hfault⟩
  exact ⟨_, hexec, ioError_record hsess e, fun j g hj hwf => ⟨_, exec_command_closed hj hready hwf rfl, rfl, rfl⟩⟩

/-- Settles O58: the step serves the operation in flight, and a teardown at a boundary answers it where it has not ended. -/
theorem oneResponsePerRequest : Obligations.OneResponsePerRequest := by
  intro s t i hs hcur hsig hstep
  have hkept : ∀ u, proceed s = .next u →
      (u.cur = some i ∧ u.rsp = s.rsp) ∨ (u.cur = none ∧ u.fsm = .idle ∧ ∃ r, u.rsp = s.rsp ++ [r]) := fun u hu => by
    obtain ⟨allowed, ⟨hsame, hrsp⟩ | ⟨hnone, hidle, r, hrsp, -⟩⟩ := proceed_served hs hcur hu
    · exact .inl ⟨hsame.trans hcur, hrsp⟩
    · exact .inr ⟨hnone, hidle, r, hrsp⟩
  rcases step_cases hstep with ⟨hreset, -⟩ | ⟨-, -, rfl⟩ | ⟨-, -, u, hu, rfl⟩ | ⟨-, -, u, hu, ⟨-, rfl⟩ | ⟨-, rfl⟩⟩
  · exact absurd hreset hsig
  · exact .inr ⟨rfl, rfl, { status := .aborted }, by simp [hcur]⟩
  · exact hkept u hu
  · obtain ⟨allowed, hserved⟩ := proceed_served hs hcur hu
    exact .inr ⟨rfl, rfl, hserved.teardown hcur⟩
  · exact hkept u hu

/-- Settles O59: a step that responds leaves no operation latched, and the state after it meets the invariant. -/
theorem endedOperationLeavesNoWorkingState : Obligations.EndedOperationLeavesNoWorkingState := by
  intro s t r hs hstep hrsp
  have ht := step_coherent hs hstep
  have hr : ResponseOk r := ht.responses r (by simp [hrsp])
  exact ⟨ht.workCleared (step_response_cur hstep hrsp), hr.no_result_of_error⟩

/-- Settles O60: an operation that holds sends nothing, and one that is served ends with a status of its row. -/
theorem operationsEndWithTheirStatuses : Obligations.OperationsEndWithTheirStatuses := by
  intro i allowed s t r hi hstep hrsp
  rcases exec_served hi hstep with rfl | hserved
  · simp at hrsp
  · simpa using hserved.status_mem hrsp

/-- Settles O14: past both checks OPEN is one LinkOpen, whose answer Unavailable is the response CONNECTION_ERROR alone. -/
theorem openUnavailableLeavesTheRegisters : Obligations.OpenUnavailableLeavesTheRegisters := by
  intro s w h baud timeout hready hsup hsess ha
  have hidle := ((ready_iff s).mp hready).1
  rw [exec_open_ready hready, acceptOpen_unavailable (by simpa using hsup) (by simpa using hsess) (by simpa using ha),
    linkOpen_eq, latch_takeAnswer, latch_openAnswer, ha]
  simp [respond, latch, hidle]

/-- Settles O19: a command needs a session, OPEN needs none (O15), and CLOSE answers OK from every READY state. -/
theorem sessionCheck : Obligations.SessionCheck := by
  intro s hready
  refine ⟨fun i f hf hwf hsess => exec_command_closed hf hready hwf hsess, fun w h baud timeout => ?_,
    _, exec_close_ready hready, rfl⟩
  exact (openChecksItsArgumentsFirst s w h baud timeout hready).2

end Sys2Proof.Proofs
end

section
/-! SUPPORT. The statements about reset: what the reset state accepts, and the next state of a step whose signal is a reset
(R151, R152), each settled from the lemmas above. -/

namespace Sys2Proof.Machine

/-- The reset state is READY: FSM is IDLE and no fault is set (R41). -/
@[simp] theorem reset_ready : State.reset.ready = true := (ready_iff _).mpr ⟨rfl, rfl⟩

end Sys2Proof.Machine

namespace Sys2Proof.Proofs

open Sys2Proof.Machine

/-- Settles O48: the reset state is READY with SESS = 0, where a command ends in its acceptance step (R141). -/
theorem resetStateIsReady : Obligations.ResetStateIsReady :=
  ⟨reset_ready, fun _ _ hf hwf => ⟨_, exec_command_closed hf reset_ready hwf rfl, rfl, rfl⟩⟩

/-- Settles O49, by the step lemma for a reset: whatever is latched, the answer is `resetSce` past the boundary, and that
takes from the old state only its parameters, the host's lines, the tapes and the outputs. -/
theorem resetForgetsTheSession : Obligations.ResetForgetsTheSession := by
  intro s hsig
  have hstep : step s = .next (resetSce s.passSignal) := step_reset hsig
  simpa only [resetSce, State.passSignal] using hstep

end Sys2Proof.Proofs
end
